-- ==== Sys2Proof/Word.lean ====
section
/-! DEFINITION. The words of the manual: bytes, cell numbers, station numbers, cycle numbers, versions, line levels. -/

namespace Sys2Proof

/-- A byte as the Application Port, the configuration memory and cell values carry it. -/
abbrev Byte := BitVec 8

/-- A cell number, 0 to 255 (00_scope.md, Conventions, Cells). -/
abbrev CellNo := BitVec 8

/-- A station number, 1 to 31; 0 is "no station" in records and "unset" in configuration
(00_scope.md, Conventions, Stations). -/
abbrev Station := BitVec 5

/-- A cycle number, 0 to 65535, wrapping to 0 (00_scope.md, Conventions, Cycle). -/
abbrev CycleNo := BitVec 16

/-- A version, 0 to 255, wrapping to 0 (00_scope.md, Conventions, Versions). -/
abbrev Version := BitVec 8

/-- A level of the line for one symbol time: `false` is dominant (value 0), `true` is recessive (value 1)
(01_the_line.md, opening). -/
abbrev Level := Bool

end Sys2Proof
end

