-- ==== Sys2Proof/Config.lean ====
section
/-! DEFINITION. What the part fixes: capacities and limits the manual gives as numbers, the unit of time of the model, and the one free value,
`transmitStall`. -/

namespace Sys2Proof.Config

/-- Places in the send queue (R105). -/
def queuePlaces : Nat := 16

/-- Records in the Notice Queue (R156). -/
def noticePlaces : Nat := 32

/-- Fetch slots (R126). -/
def fetchSlots : Nat := 4

/-- Stations of the Roster (R54). -/
def stations : Nat := 31

/-- Cells of the Common Table (R77). -/
def cells : Nat := 256

/-- Counters of the node (R36). -/
def counters : Nat := 13

/-- Half microseconds in one unit of the period P, 10 µs (00_scope.md, Conventions, Cycle).
The model's unit of time is half a microsecond: DESIGN CHOICE, log 3. -/
def unitsPerPeriod : Nat := 20

/-- Half microseconds in one symbol time, by symbol rate code 0 to 4 (R172): 125, 250, 500, 1000, 2000 kilosymbols per second. -/
def unitsPerSymbol (rateCode : Nat) : Nat := 2 ^ (4 - rateCode)

/-- Symbols of a veto (R12, R14). -/
def vetoSymbols : Nat := 8

/-- Consecutive dominant symbols that make the line STUCK (R19). -/
def stuckRun : Nat := 64

/-- Symbol times after its start symbol by which a frame must have reached its guard symbol (R20). -/
def overrunSymbols : Nat := 240

/-- FREE VALUE, log 35: whether, and after how many symbols beyond the start symbol, the transmit path stops advancing through the `n`th frame
that the node starts. R20 says that such a fault within the node can befall any frame, and nothing of when it does. -/
opaque transmitStall (n : Nat) : Option Nat

/-- The read request that the node sends on MDAT at the start of a preload, each byte most significant bit first (R168). -/
def readRequest : List (BitVec 8) := [0x2E, 0x00, 0x00]

end Sys2Proof.Config
end

