-- ==== Sys2Proof/Syntax.lean ====
section
/-! DEFINITION. The commands of the node: one constructor of `Instr` per row of spec/opcode_table.json, and the data they carry.
The table gives its rows no operands; those below are what the row's rule says the event carries (log 10). -/

namespace Sys2Proof

/-- The strap levels sampled at the rising edge of RESET (R167). -/
structure Straps where
  stload : Bool
  stlock : Bool
  stjoin : Bool
  deriving DecidableEq, Repr

/-- The kind-dependent part of a frame: kind and header (R7, R8). -/
inductive FrameBody where
  /-- MARK: the cycle number that the frame begins. -/
  | mark (number : CycleNo)
  /-- PRESENCE: digest, standing (`true` for GUARDED), leaving, eligible and lead flags. -/
  | presence (digest : BitVec 16) (guarded leaving eligible lead : Bool)
  /-- PUBLICATION: version, cycle tag and data; the length field is the number of data bytes. -/
  | publication (version : Version) (tag : BitVec 8) (data : List Byte)
  /-- FETCH: no header; the cell asked for is the subject. -/
  | fetch
  deriving DecidableEq, Repr

/-- A frame by its fields: contention field (class, subject, station), then kind and header (R7). -/
structure Frame where
  cls : BitVec 2
  subject : BitVec 8
  station : Station
  body : FrameBody
  deriving DecidableEq, Repr

/-- The levels at the rising edge of RESET: the straps, and whether PSEL is low already (R167, R179). -/
structure ReleaseLevels where
  straps : Straps
  pselLow : Bool
  deriving DecidableEq, Repr

/-- The receive faults of R13. -/
inductive FaultKind where
  | coding
  | format
  | check
  deriving DecidableEq, Repr

/-- How a frame taken reaches the model: by its fields, as the Line Interface hands it over (R15, R22), or by the levels seen on
the line from the start symbol to the last end-field symbol, which the model's receiver then judges (R6, R13, R15). -/
inductive FrameView where
  | reported (frame : Frame)
  | seen (levels : List Level)
  deriving DecidableEq, Repr

/-- How a receive fault reaches the model: by its kind (R22), with the consecutive dominant symbols that the Line Interface has counted
at the symbol where it is found (R19); or by the levels seen up to that symbol (R13). -/
inductive FaultView where
  | reported (kind : FaultKind) (dominantRun : Nat)
  | seen (levels : List Level)
  deriving DecidableEq, Repr

/-- How an outcome of an own frame, or a frame discarded, reaches the model: as reported (R22), with the consecutive dominant symbols
that the Line Interface has counted at the deciding symbol (R19); or by the levels seen on the line from the start symbol to the
deciding symbol (R11, R12, R15, R16, R17). -/
inductive LineView where
  | reported (dominantRun : Nat)
  | seen (levels : List Level)
  deriving DecidableEq, Repr

/-- The sources of notices whose order at one event the spec leaves open between them (R155).
Notices of one source keep the order in which they were raised.
Where a block's chapter states no order between two of its notices, the block is two sources (DESIGN CHOICE, log 34). -/
inductive Source where
  | lineInterface
  | standing
  | monitor
  | threshold
  | membership
  | cycleUnit
  | lead
  | cellEngine
  | queue
  | fetchUnit
  | snapshotUnit
  deriving DecidableEq, Repr

/-- What a cycle start makes the blocks do, each in its own state (R46, R58, R91 to R97, R130). -/
inductive CycleWork where
  /-- The Roster ages the entry of a station (R58). -/
  | roster (station : Station)
  /-- The Cell Engine ages replicas, ends gaps and raises CYCLIC triggers, in ascending cell order (R91 to R97). -/
  | cells
  /-- The Fetch Unit counts the AWAITING slots down, in ascending slot order (R130). -/
  | slots
  /-- The Membership Controller counts towards the next presence (R46). -/
  | presence
  deriving DecidableEq, Repr

/-- The sender's resolution of the orders that the spec leaves open INSIDE one event ("either order may occur"): log 7; and of the one
point where two of its rules differ: log 13. Every order is a behaviour the spec allows; `Ties.default` leaves every choice to the
model's default. -/
structure Ties where
  /-- Which source's next notice reaches the Notice Queue next (R155). -/
  turns : List Source
  /-- In which order the blocks do their work at a cycle start (R94, R100, R132, R135). -/
  works : List CycleWork
  /-- At a departure, the Fetch Unit reacts before the Cell Engine (R59, R135). -/
  fetchFirst : Bool
  /-- At a fall to SILENT, the flush comes before the outcome that caused it (R123). -/
  flushFirst : Bool
  /-- A publication taken at the same moment as the local cycle start that makes its sender ABSENT, and first, leaves the departure
  standing, as R100 says; `false` follows R58, by which the sender's silence returns to 0 (log 13). -/
  departureStands : Bool
  deriving DecidableEq, Repr

/-- No choice made: the model's default order throughout. -/
def Ties.default : Ties := ⟨[], [], false, false, false⟩

/-- How a driver over-run reaches the model: the dominant symbols that the Line Interface has counted at the 240th symbol time, as reported or by
the levels seen since the start symbol (R19, R20), and the resolution of what the spec leaves open in the event. -/
structure Overrun where
  view : LineView
  ties : Ties
  deriving DecidableEq, Repr

/-- The commands: one constructor per row of spec/opcode_table.json, in the table's order. -/
inductive Instr where
  /-- HARD_RESET: RESET falls (R176). -/
  | hardReset
  /-- RESET_RELEASE: RESET rises and the straps are sampled (R167); a PSEL low already starts no transaction (R179). -/
  | resetRelease (levels : ReleaseLevels)
  /-- PRELOAD_END: the preload has read what it needs of the configuration memory (R168 to R170). `levels` are the
  levels sampled on MDAT at the rising MCLK edges after the read request, from byte 0 of the memory on; `restLevel` is the level at which MDAT
  rests, sampled at every edge beyond them (R168, log 15). -/
  | preloadEnd (levels : List Level) (restLevel : Level)
  /-- TRANSACTION_ABORT: PSEL rises with no request taken since it fell, or since RESET rose (R179). -/
  | transactionAbort
  /-- UNKNOWN: a code byte that names no request (R179). -/
  | unknown (code : Byte)
  /-- CANCEL: withdraw a waiting send of a cell (R120, R180). -/
  | cancel (cell : CellNo)
  /-- CFGCELL: one cell record, its 40-bit value as R181 lays it out (R173). -/
  | cfgcell (cell : CellNo) (record : BitVec 40)
  /-- CFGNODE: a parameter number and its five-byte value (R172, R182). -/
  | cfgnode (number : Byte) (value : BitVec 40)
  /-- DETACH: leave the line (R47, R183). -/
  | detach (ties : Ties)
  /-- FETCH: ask the owner for a fresh copy of a cell (R127, R184). -/
  | fetch (cell : CellNo)
  /-- JOIN: join the line (R42, R185). -/
  | join
  /-- NOTAKE: take the oldest notice (R160, R186). -/
  | notake
  /-- RDCELL: read a cell record (R102, R187). -/
  | rdcell (cell : CellNo)
  /-- RDCNT: read the counters; the operand is the clear flag (R37, R188). -/
  | rdcnt (clear : Byte)
  /-- RDROST: read a Roster entry; the operand is the station byte (R189). -/
  | rdrost (station : Byte)
  /-- RDSTAT: read the node status (R190). -/
  | rdstat
  /-- REJOIN: return to the line after recovery (R51, R191). -/
  | rejoin
  /-- RESTART: return to configuration (R53, R192). -/
  | restart
  /-- SNFREE: give back the open snapshot (R152, R193). -/
  | snfree
  /-- SNOPEN: open the newest snapshot (R149, R194). -/
  | snopen
  /-- SNREAD: read a cell from the open snapshot (R151, R195). -/
  | snread (cell : CellNo)
  /-- WRCELL: write a value to an owned cell; the length byte is the number of value bytes (R81, R196, log 16). -/
  | wrcell (cell : CellNo) (value : List Byte)
  /-- FRAME_START: the node may start a frame at this symbol boundary (R10). -/
  | frameStart
  /-- OUTCOME_LOST of the own frame (R11). -/
  | outcomeLost (view : LineView)
  /-- OUTCOME_CLASH of the own frame (R12). -/
  | outcomeClash (view : LineView) (ties : Ties)
  /-- OUTCOME_LONE of the own frame (R16). -/
  | outcomeLone (view : LineView) (ties : Ties)
  /-- OUTCOME_VETOED of the own frame (R17). -/
  | outcomeVetoed (view : LineView) (ties : Ties)
  /-- OUTCOME_SENT of the own frame (R17). -/
  | outcomeSent (view : LineView) (ties : Ties)
  /-- DRIVER_TIMEOUT: the own frame has not reached its guard symbol after 240 symbol times (R20, R30). -/
  | driverTimeout (report : Overrun)
  /-- FRAME_TAKEN: a frame received passes its end field clean (R15). -/
  | frameTaken (view : FrameView) (ties : Ties)
  /-- RECEIVE_FAULT: the receiver finds a fault (R13). -/
  | receiveFault (view : FaultView) (ties : Ties)
  /-- FRAME_DISCARDED: a dominant end-field symbol after a reception without fault (R15). -/
  | frameDiscarded (view : LineView)
  /-- QUIET_INTERVAL: ten further recessive symbols outside frames (R4). -/
  | quietInterval (ties : Ties)
  /-- LINE_STUCK: the 64th consecutive dominant symbol (R19). -/
  | lineStuck
  /-- SUSPENSION_END: the idle run reaches 18 while a suspension is pending (R18). -/
  | suspensionEnd
  /-- RECOVERY: the quiet-interval count stands at 96 (R31). -/
  | recovery (ties : Ties)
  /-- WINDOW_CLOSE: the observation tally stands at 32 (R33). -/
  | windowClose
  /-- SILENCE_DEPARTURE: the silence count of a station stands above 3 × I (R58). -/
  | silenceDeparture (station : Station) (ties : Ties)
  /-- LISTEN_WINDOW_END: the tallies of the listen window have reached their end (R44). -/
  | listenWindowEnd (ties : Ties)
  /-- PRESENCE_FILL: the presence count stands at I (R46). -/
  | presenceFill
  /-- LOCAL_CYCLE_START: the cycle timer reaches P at an UNSYNCED node (R67). -/
  | localCycleStart (ties : Ties)
  /-- MARK_FILL: the cycle timer reaches P at a lead whose mark entry is EMPTY (R70). -/
  | markFill
  /-- LOSS_OF_SYNC: the mark timer reaches 3 × P at a SYNCED node (R68). -/
  | lossOfSync (ties : Ties)
  /-- TAKEOVER: the takeover timer expires (R74). -/
  | takeover
  /-- CELL_STALE: a FRESH replica's age stands above E (R91). -/
  | cellStale (cell : CellNo)
  /-- CELL_LOST: the age of a STALE replica of a FOLLOW cell stands above four times E (R92). -/
  | cellLost (cell : CellNo)
  /-- CLAIM_REGAINED: the age of a STALE replica of a YIELDED cell stands above four times E (R93). -/
  | claimRegained (cell : CellNo) (ties : Ties)
  /-- GAP_END: a gap count stands at 0 with the held flag set (R96). -/
  | gapEnd (cell : CellNo)
  /-- FETCH_TRY_END: the timer of an AWAITING slot stands at 0 (R130). -/
  | fetchTryEnd (slot : Fin 4)
  /-- START_SYMBOL: another node's start symbol (R3, R10, R18); and any other dominant symbol seen outside frames (R3, R19, log 32). -/
  | startSymbol
  deriving DecidableEq, Repr

end Sys2Proof
end

