-- ==== Sys2Proof/Decode.lean ====
section
/-! DEFINITION. Words to commands. No row of spec/opcode_table.json gives bits, so `decodeTableWord` answers none for every word.
Below it stand the request codes, the framing of a transaction's bytes at the Application Port, the bytes that the bits on PDI make, what PDO
carries (R178 to R196), and the bits on MDAT, sent and read (R168). -/

namespace Sys2Proof

/-- The command that a word spells by the table's bits: the table gives bits to no row (log 29). -/
def decodeTableWord (_nbits _w : Nat) : Option Instr := none

/-- The codes of the seventeen requests (R180 to R196). -/
def requestCodes : List Byte := [17, 18, 19, 31, 33, 34, 35, 36, 49, 50, 51, 65, 81, 82, 97, 98, 99]

/-- Does a code byte name a request? (R179) -/
def namesRequest (code : Byte) : Bool := requestCodes.contains code

/-- Five bytes as one 40-bit value, high byte first (R181, R182). -/
def value40 (b4 b3 b2 b1 b0 : Byte) : BitVec 40 := b4 ++ b3 ++ b2 ++ b1 ++ b0

/-- Byte `k` of a 40-bit value, 4 the highest (R181, R182). -/
def byteOf40 (v : BitVec 40) (k : Nat) : Byte := BitVec.ofNat 8 (v.toNat >>> (8 * k))

/-- The command that the bytes of one transaction make: its code byte, then the operand bytes its code calls for (R178).
A transaction whose bytes end before the last operand byte is cut short and has no effect (R179).
Bytes after the last operand byte fall in the response and are ignored (R178).
`ties` resolves what a DETACH leaves open. -/
def commandOf (ties : Ties) : List Byte → Instr
  | [] => .transactionAbort
  | code :: ops =>
    match code.toNat, ops with
    | 17, _ => .join
    | 18, _ => .rejoin
    | 19, _ => .detach ties
    | 31, _ => .restart
    | 33, c :: _ => .rdcell c
    | 34, c :: n :: vs =>
      if 16 < n.toNat then .wrcell c (List.replicate n.toNat 0)
      else if vs.length < n.toNat then .transactionAbort
      else .wrcell c (vs.take n.toNat)
    | 35, c :: _ => .fetch c
    | 36, c :: _ => .cancel c
    | 49, _ => .snopen
    | 50, c :: _ => .snread c
    | 51, _ => .snfree
    | 65, _ => .notake
    | 81, p :: b4 :: b3 :: b2 :: b1 :: b0 :: _ => .cfgnode p (value40 b4 b3 b2 b1 b0)
    | 82, c :: b4 :: b3 :: b2 :: b1 :: b0 :: _ => .cfgcell c (value40 b4 b3 b2 b1 b0)
    | 97, _ => .rdstat
    | 98, f :: _ => .rdcnt f
    | 99, st :: _ => .rdrost st
    | _, _ => if namesRequest code then .transactionAbort else .unknown code

/-- The bytes the host sends for a request: code and operands (R178, R180 to R196); none for a command that is no request. -/
def requestBytes : Instr → Option (List Byte)
  | .unknown code => some [code]
  | .cancel c => some [36, c]
  | .cfgcell c r => some [82, c, byteOf40 r 4, byteOf40 r 3, byteOf40 r 2, byteOf40 r 1, byteOf40 r 0]
  | .cfgnode p v => some [81, p, byteOf40 v 4, byteOf40 v 3, byteOf40 v 2, byteOf40 v 1, byteOf40 v 0]
  | .detach _ => some [19]
  | .fetch c => some [35, c]
  | .join => some [17]
  | .notake => some [65]
  | .rdcell c => some [33, c]
  | .rdcnt f => some [98, f]
  | .rdrost st => some [99, st]
  | .rdstat => some [97]
  | .rejoin => some [18]
  | .restart => some [31]
  | .snfree => some [51]
  | .snopen => some [49]
  | .snread c => some [50, c]
  | .wrcell c vs => some (34 :: c :: BitVec.ofNat 8 vs.length :: vs)
  | .hardReset | .resetRelease _ | .preloadEnd _ _ | .transactionAbort | .frameStart | .outcomeLost _ | .outcomeClash _ _
  | .outcomeLone _ _ | .outcomeVetoed _ _ | .outcomeSent _ _ | .driverTimeout _ | .frameTaken _ _ | .receiveFault _ _
  | .frameDiscarded _ | .quietInterval _ | .lineStuck | .suspensionEnd | .recovery _ | .windowClose | .silenceDeparture _ _
  | .listenWindowEnd _ | .presenceFill | .localCycleStart _ | .markFill | .lossOfSync _ | .takeover | .cellStale _ | .cellLost _
  | .claimRegained _ _ | .gapEnd _ | .fetchTryEnd _ | .startSymbol => none

/-! ## PDI (R178) -/

/-- A byte from eight levels, most significant bit first (R178). -/
def byteOfBits (levels : List Level) : Byte := BitVec.ofNat 8 (levels.foldl (fun n b => 2 * n + b.toNat) 0)

/-- The bytes that the host sends, from the levels on PDI at the rising edges of PCLK since PSEL fell: eight to a byte, most significant bit
first. Levels that complete no byte make none, for a request is taken at the edge that completes its last byte (R178, R179). -/
def pdiBytes : List Level → List Byte
  | b7 :: b6 :: b5 :: b4 :: b3 :: b2 :: b1 :: b0 :: rest => byteOfBits [b7, b6, b5, b4, b3, b2, b1, b0] :: pdiBytes rest
  | _ => []

/-- The command that one transaction makes, from the levels sampled on PDI (R178, R179). -/
def commandOfBits (ties : Ties) (levels : List Level) : Instr := commandOf ties (pdiBytes levels)

/-! ## PDO (R178) -/

/-- How many bytes of a transaction make its request, code and operands (R178, R196). None for one that is cut short: all that the host
clocks of it is code and operands, the bits of a byte not completed among them (R178, R179). -/
def requestLength (bytes : List Byte) : Option Nat :=
  match commandOf Ties.default bytes with
  | .transactionAbort => none
  | .wrcell _ value => some (if 16 < value.length then 3 else 3 + value.length)
  | c => (requestBytes c).map List.length

/-- The byte on PDO while the host clocks byte `i` of a transaction: FFh during code and operands, then the response, then FFh (R178). -/
def pdoByte (bytes response : List Byte) (i : Nat) : Byte :=
  match requestLength bytes with
  | some n => if i < n then 0xFF else response.getD (i - n) 0xFF
  | none => 0xFF

/-- The level on PDO at bit `i` of a transaction, each byte most significant bit first; released, which is none, while PSEL is high
(R178). -/
def pdoLevel (pselLow : Bool) (bytes response : List Byte) (i : Nat) : Option Level :=
  if pselLow then some ((pdoByte bytes response (i / 8)).getMsbD (i % 8)) else none

/-! ## MDAT (R168) -/

/-- The level that the node drives on MDAT at MCLK period `i` of a preload: the bits of the read request, each byte most significant bit first;
then MDAT is released, which is none (R168). -/
def mdatLevel (request : List Byte) (i : Nat) : Option Level := (request[i / 8]?).map fun b => b.getMsbD (i % 8)

/-- Byte `i` of the configuration memory, from the levels sampled on MDAT at the rising MCLK edges after the read request: eight to a byte, most
significant bit first. Beyond them MDAT reads as the level it rests at (R168, log 15). -/
def memByte (levels : List Level) (restLevel : Level) (i : Nat) : Byte :=
  byteOfBits ((List.range 8).map fun k => levels.getD (8 * i + k) restLevel)

end Sys2Proof
end

