-- ==== Sys2Proof/WellFormed.lean ====
section
/-! DEFINITION. Which commands are well formed: what the data of an event must meet to be that event at all. -/

namespace Sys2Proof

/-- A frame that a receiver can take: a station field that is not 0 and a length of 16 or less (R13). -/
def Frame.wellFormed (f : Frame) : Bool :=
  f.station != 0 &&
    match f.body with
    | .publication _ _ data => data.length ≤ 16
    | .mark _ | .presence _ _ _ _ _ | .fetch => true

/-- A run of dominant symbols up to a deciding symbol that is dominant (LOST, VETOED, a frame discarded): at least that symbol, and never
more than seven, for the seventh is a coding error or a clash (R5, R6, R12). -/
def LineView.dominant : LineView → Bool
  | .reported run => 1 ≤ run && run ≤ 7
  | .seen _ => true

/-- No dominant symbol up to a deciding symbol that is recessive (LONE, SENT; R16, R17). -/
def LineView.recessive : LineView → Bool
  | .reported run => run = 0
  | .seen _ => true

/-- A run of dominant symbols that the Line Interface can have counted at any symbol: it rests at 64 (R19). -/
def LineView.untilStuck : LineView → Bool
  | .reported run => run ≤ Config.stuckRun
  | .seen _ => true

/-- The check of a command's operands, one case per constructor. -/
def Instr.wellFormed : Instr → Bool
  | .unknown code => !namesRequest code
  | .wrcell _ value => value.length ≤ 255
  | .frameTaken (.reported f) _ => f.wellFormed
  | .frameTaken (.seen _) _ => true
  | .receiveFault (.reported _ run) _ => run ≤ 7
  | .receiveFault (.seen _) _ => true
  | .outcomeLost view | .outcomeVetoed view _ | .frameDiscarded view => view.dominant
  | .outcomeLone view _ | .outcomeSent view _ => view.recessive
  | .outcomeClash (.reported run) _ => run ≤ 7
  | .outcomeClash (.seen _) _ => true
  | .driverTimeout report => report.view.untilStuck
  | .silenceDeparture st _ => st != 0
  | .hardReset | .resetRelease _ | .preloadEnd _ _ | .transactionAbort | .cancel _ | .cfgcell _ _ | .cfgnode _ _ | .detach _
  | .fetch _ | .join | .notake | .rdcell _ | .rdcnt _ | .rdrost _ | .rdstat | .rejoin | .restart | .snfree | .snopen | .snread _
  | .frameStart | .quietInterval _ | .lineStuck | .suspensionEnd | .recovery _ | .windowClose
  | .listenWindowEnd _ | .presenceFill | .localCycleStart _ | .markFill | .lossOfSync _ | .takeover | .cellStale _ | .cellLost _
  | .claimRegained _ _ | .gapEnd _ | .fetchTryEnd _ | .startSymbol => true

end Sys2Proof
end

