-- ==== Sys2Proof/Machine/State.lean ====
section
/-! DEFINITION. The state of the node, block by block as 00_scope.md names them, as plain data; the reasons a step can stop; and the
state after reset. Every register the spec names has one home here (INVENTORY.md, State). -/

namespace Sys2Proof.Machine

/-! ## Line Interface (01_the_line.md) -/

/-- The line state (R3). -/
inductive LineState where
  | idle
  | busy
  | stuck
  deriving DecidableEq, Repr

/-- What the Line Interface tracks: no frame, a frame it receives, its own frame, or the end field of its own frame after a LONE
outcome (R3, R16). -/
inductive Track where
  | none
  | receiving
  | sending
  | trailing
  deriving DecidableEq, Repr

/-- What the driver drives: nothing, the symbols of an own frame, or a veto, with the time left of its eight symbols (R2, R14; log 3). -/
inductive Driver where
  | released
  | frame
  | veto (left : Nat)
  deriving DecidableEq, Repr

/-- Where in its frame a symbol stands, as the sender judges a difference there (R11, R12, R16, R17). -/
inductive Part where
  | contention
  | resync
  | body
  | guard
  | ack
  | endField
  deriving DecidableEq, Repr

/-- One symbol a sender sends: its level and its part (R7). -/
structure TxSymbol where
  level : Level
  part : Part
  deriving DecidableEq, Repr

/-- The Line Interface's state (R1, R3, R15, R18, R19, R20). Run counts stand at their values after the last line event (log 9). -/
structure LineInterface where
  lineState : LineState
  track : Track
  driver : Driver
  /-- A veto that is due: the time until its first symbol, if one is (R12, R14; log 3). -/
  vetoDue : Option Nat
  idleRun : Nat
  dominantRun : Nat
  suspension : Bool
  acked : Bool
  tx : List TxSymbol
  /-- The time since the start symbol of the own frame while one is sent (R20); outside frames, the time since the last symbol that the run of
  dominant symbols has counted (R19; log 3). -/
  elapsed : Nat
  /-- After how many symbols beyond the start symbol the transmit path stops advancing through the own frame, if it does (R20; log 35). -/
  stall : Option Nat
  deriving DecidableEq, Repr

/-- After a hard reset and after RESTART (R1). -/
def LineInterface.reset : LineInterface := ⟨.busy, .none, .released, none, 0, 0, false, false, [], 0, none⟩

/-! ## Standing Unit (02_standing_and_line_health.md) -/

/-- The standing (R27). -/
inductive Standing where
  | active
  | guarded
  | silent
  deriving DecidableEq, Repr

/-- The Standing Unit's state (R23). -/
structure StandingUnit where
  sendFaults : Nat
  recvFaults : Nat
  standing : Standing
  quiet : Nat
  observations : Nat
  faults : Nat
  highError : Bool
  highErrorSeen : Bool
  lineStuckSeen : Bool
  deriving DecidableEq, Repr

/-- After a hard reset and after RESTART (R23, R34). -/
def StandingUnit.reset : StandingUnit := ⟨0, 0, .active, 0, 0, 0, false, false, false⟩

/-- The thirteen counters (R36). -/
inductive CounterId where
  | sentFrames
  | takenFrames
  | sendFaults
  | receiveFaults
  | vetoes
  | loneSends
  | lostContentions
  | staleCopies
  | missedVersions
  | ownerClashes
  | tagSkews
  | snapshotDrops
  | noticesLost
  deriving DecidableEq, Repr

/-! ## Membership Controller (03_membership.md) -/

/-- The node state (R40). -/
inductive NodeState where
  | loading
  | config
  | listening
  | member
  | leaving
  | cutOff
  | detached
  | halted
  deriving DecidableEq, Repr

/-- The state of a Roster entry (R54). -/
inductive RosterState where
  | absent
  | present
  | foreign
  | self
  deriving DecidableEq, Repr

/-- A Roster entry: state, silence count, and the reported fields of the last presence taken (R54). -/
structure RosterEntry where
  state : RosterState
  silence : Nat
  digest : BitVec 16
  standing : Standing
  eligible : Bool
  lead : Bool
  deriving DecidableEq, Repr

/-- The reset values of a Roster entry (R54). -/
def RosterEntry.reset : RosterEntry := ⟨.absent, 0, 0, .active, false, false⟩

/-- The entry of the configured station number (R54). -/
def RosterEntry.own : RosterEntry := { RosterEntry.reset with state := .self }

/-- The presence entry: filled or not, leaving flag, attempts, and its place in the arrival order (R40, R46, R105). -/
structure PresenceEntry where
  filled : Bool
  leaving : Bool
  attempts : Nat
  place : Nat
  deriving DecidableEq, Repr

/-- The empty presence entry (R40, R105). -/
def PresenceEntry.empty : PresenceEntry := ⟨false, false, 0, 0⟩

/-- The Membership Controller's state (R40, R54). `roster` has 31 entries, station 1 first. -/
structure Membership where
  node : NodeState
  markTally : Nat
  startTally : Nat
  presenceCount : Nat
  presence : PresenceEntry
  roster : List RosterEntry
  deriving DecidableEq, Repr

/-- After a hard reset that ends with STLOAD clear: CONFIG, no SELF entry (R40, R54). -/
def Membership.reset : Membership :=
  ⟨.config, 0, 0, 0, PresenceEntry.empty, List.replicate Config.stations RosterEntry.reset⟩

/-! ## Cycle Unit (04_the_cycle_and_the_lead.md) -/

/-- The mark entry (R62). -/
inductive MarkState where
  | empty
  | waiting
  | inFlight
  deriving DecidableEq, Repr

/-- The Cycle Unit's state (R62, R35). Timers are in units of half a microsecond (log 3). -/
structure CycleUnit where
  number : CycleNo
  cycleTimer : Nat
  markTimer : Nat
  /-- The takeover timer: stopped, or running with the time since its last restart. -/
  takeover : Option Nat
  synced : Bool
  lead : Bool
  mark : MarkState
  markNumber : CycleNo
  syncHeld : Bool
  deriving DecidableEq, Repr

/-- After a hard reset and after RESTART (R62). -/
def CycleUnit.reset : CycleUnit := ⟨0, 0, 0, none, false, false, .empty, 0, false⟩

/-! ## Cell Engine (05_the_common_table.md) -/

/-- The configured role (R77). -/
inductive Role where
  | unused
  | own
  | follow
  deriving DecidableEq, Repr

/-- The effective role (R78). -/
inductive EffRole where
  | unused
  | own
  | follow
  | yielded
  deriving DecidableEq, Repr

/-- When an OWN cell is published (R77). -/
inductive Policy where
  | cyclic
  | onChange
  | onRequest
  deriving DecidableEq, Repr

/-- The state of a replica (R78). -/
inductive Freshness where
  | never
  | fresh
  | stale
  | lost
  deriving DecidableEq, Repr

/-- The configured part of a cell record (R77). -/
structure CellConfig where
  role : Role
  cls : BitVec 2
  length : Nat
  snapshot : Bool
  policy : Policy
  period : Nat
  phase : Nat
  gap : Nat
  expected : Nat
  deriving DecidableEq, Repr

/-- The default record (R77). -/
def CellConfig.default : CellConfig := ⟨.unused, 1, 0, false, .cyclic, 1, 0, 0, 0⟩

/-- A cell record: the configured part and the runtime part (R77, R78). The deferred flag of R78 is the cell's place in the
deferred set of the Send Queue, and stands there (log 25). -/
structure CellRecord where
  cfg : CellConfig
  eff : EffRole
  value : List Byte
  version : Version
  owner : Station
  freshness : Freshness
  age : Nat
  takeCycle : CycleNo
  changed : Bool
  held : Bool
  gapCount : Nat
  deriving DecidableEq, Repr

/-- The effective role that a configured role gives (R78). -/
def Role.effective : Role → EffRole
  | .unused => .unused
  | .own => .own
  | .follow => .follow

/-- The record of a configured part with the runtime part at its reset values, at a node of station number `own` (R78). -/
def CellRecord.fresh (own : Station) (cfg : CellConfig) : CellRecord where
  cfg := cfg
  eff := cfg.role.effective
  value := List.replicate cfg.length 0
  version := 0
  owner := if cfg.role = .own then own else 0
  freshness := .never
  age := 0
  takeCycle := 0
  changed := false
  held := false
  gapCount := 0

/-- The record every cell has after a hard reset (R77, R78). -/
def CellRecord.reset : CellRecord := CellRecord.fresh 0 CellConfig.default

/-! ## Send Queue (06_publishing.md) -/

/-- Why an entry was created (R106). -/
inductive Reason where
  | cyclic
  | change
  | answer
  | clash
  | join
  | request
  deriving DecidableEq, Repr

/-- The frame a queue entry sends (R106). -/
inductive EntryKind where
  | publication
  | fetch
  deriving DecidableEq, Repr

/-- A queue entry (R106). -/
structure Entry where
  kind : EntryKind
  cell : CellNo
  reason : Reason
  attempts : Nat
  arrival : Nat
  cancelRequested : Bool
  deriving DecidableEq, Repr

/-- What the in-flight slot names: a queue entry by its cell, the mark entry or the presence entry (R105). -/
inductive Target where
  | mark
  | presence
  | entry (cell : CellNo)
  deriving DecidableEq, Repr

/-- The in-flight slot when it is not empty: what it names, and the frame image; a publication's image holds the version the slot
records (R105, R114). -/
structure Flight where
  target : Target
  image : Frame
  deriving DecidableEq, Repr

/-- The Send Queue's state (R105): the list in arrival order, the deferred set in ascending cell order with each cell's deferred
reason (R108), the in-flight slot, and the next place in the arrival order. -/
structure SendQueue where
  entries : List Entry
  deferred : List (CellNo × Reason)
  inFlight : Option Flight
  nextArrival : Nat
  deriving DecidableEq, Repr

/-- After a hard reset and after RESTART (R105). -/
def SendQueue.reset : SendQueue := ⟨[], [], none, 0⟩

/-! ## Fetch Unit (07_fetches.md) -/

/-- The state of a fetch slot (R126). -/
inductive SlotState where
  | free
  | requesting
  | awaiting
  deriving DecidableEq, Repr

/-- A fetch slot (R126). A FREE slot holds no cell: its cell field is then 0. -/
structure FetchSlot where
  state : SlotState
  cell : CellNo
  tries : Nat
  timer : Nat
  deriving DecidableEq, Repr

/-- A FREE slot (R126). -/
def FetchSlot.free : FetchSlot := ⟨.free, 0, 0, 0⟩

/-! ## Snapshot Unit (08_snapshots.md) -/

/-- The state of a snapshot area (R141). -/
inductive AreaState where
  | empty
  | ready
  | reading
  deriving DecidableEq, Repr

/-- The two areas (R141). -/
inductive AreaId where
  | a
  | b
  deriving DecidableEq, Repr

/-- A cell copy (R141). -/
structure CellCopy where
  cell : CellNo
  eff : EffRole
  length : Nat
  value : List Byte
  version : Version
  owner : Station
  freshness : Freshness
  age : Nat
  deriving DecidableEq, Repr

/-- A snapshot area: state, header and cell copies (R141). -/
structure Area where
  state : AreaState
  cycle : CycleNo
  complete : Bool
  count : Nat
  copies : List CellCopy
  deriving DecidableEq, Repr

/-- An EMPTY area (R141). -/
def Area.empty : Area := ⟨.empty, 0, false, 0, []⟩

/-- The Snapshot Unit's state (R141). -/
structure Snapshots where
  areaA : Area
  areaB : Area
  newer : Option AreaId
  deriving DecidableEq, Repr

/-- After a hard reset and after RESTART (R141). -/
def Snapshots.reset : Snapshots := ⟨Area.empty, Area.empty, none⟩

/-! ## Notice Queue (09_notices.md) -/

/-- The 34 notice kinds, in the order of their codes (09_notices.md, Notice kinds). -/
inductive NoticeKind where
  | joined
  | detached
  | cutOff
  | recovered
  | halted
  | stationPresent
  | stationAbsent
  | stationForeign
  | leadTaken
  | leadDropped
  | cycleSlip
  | cycleLost
  | cycleFound
  | standing
  | highError
  | lineStuck
  | driverTimeout
  | threshold
  | cellStale
  | cellLost
  | cellFresh
  | ownerChanged
  | claimLost
  | claimClash
  | claimRegained
  | lengthClash
  | versionClash
  | sendFailed
  | sendCancelled
  | queueBacklog
  | fetchDone
  | fetchFailed
  | snapshotReady
  | snapshotDropped
  deriving DecidableEq, Repr

/-- A notice record (R154). Station 0 is none. -/
structure Notice where
  kind : NoticeKind
  cell : Option CellNo
  station : Station
  stamp : CycleNo
  detail : BitVec 8
  deriving DecidableEq, Repr

/-- The Notice Queue's state (R156, R158, R161). `outbox` is the model's own: the notices raised inside the present step and not
yet handed to the queue; it is empty between steps (log 8). -/
structure NoticeQueue where
  list : List Notice
  overflow : Bool
  attn : Bool
  outbox : List Notice
  deriving DecidableEq, Repr

/-- After a hard reset and after RESTART (R163). -/
def NoticeQueue.reset : NoticeQueue := ⟨[], false, false, []⟩

/-! ## Configuration Loader (10_configuration_and_start_up.md) -/

/-- The load status (R166). -/
inductive LoadStatus where
  | none
  | good
  | noMemory
  | badCheck
  deriving DecidableEq, Repr

/-- The send order (R112, R113). -/
inductive SendOrder where
  | key
  | arrival
  deriving DecidableEq, Repr

/-- The notice overflow policy (R157). -/
inductive OverflowPolicy where
  | keepOld
  | keepNew
  deriving DecidableEq, Repr

/-- The snapshot policy (R146, R147). -/
inductive SnapshotPolicy where
  | keepNewest
  | keepFirst
  deriving DecidableEq, Repr

/-- The node parameters, in the order of their numbers (R172). -/
structure Params where
  station : Station
  rateCode : Nat
  period : Nat
  presenceInterval : Nat
  leadEligible : Bool
  takeoverStep : Nat
  listenWindow : Nat
  retryLimit : Nat
  sendOrder : SendOrder
  fetchTimeout : Nat
  fetchTries : Nat
  autoRecovery : Bool
  noticeOverflow : OverflowPolicy
  recordMask : BitVec 34
  signalMask : BitVec 35
  snapshotPolicy : SnapshotPolicy
  thrSendFaults : Nat
  thrReceiveFaults : Nat
  thrMissedVersions : Nat
  thrOwnerClashes : Nat
  deriving DecidableEq, Repr

/-- The defaults of the node parameters (R172). -/
def Params.default : Params where
  station := 0
  rateCode := 2
  period := 1000
  presenceInterval := 4
  leadEligible := true
  takeoverStep := 256
  listenWindow := 4
  retryLimit := 3
  sendOrder := .key
  fetchTimeout := 2
  fetchTries := 3
  autoRecovery := false
  noticeOverflow := .keepOld
  recordMask := BitVec.allOnes 34
  signalMask := 0
  snapshotPolicy := .keepNewest
  thrSendFaults := 65535
  thrReceiveFaults := 65535
  thrMissedVersions := 65535
  thrOwnerClashes := 65535

/-- The Configuration Loader's state (R166); the configured part of the cells stands in `State.cells`. -/
structure Loader where
  straps : Straps
  loadStatus : LoadStatus
  params : Params
  frozen : Bool
  digest : BitVec 16
  /-- MSEL is asserted: the preload is running (R168). -/
  msel : Bool
  /-- The bytes that the node has sent on MDAT in the preload that is running (R168). -/
  mdatSent : List Byte
  deriving DecidableEq, Repr

/-- After a hard reset, the straps sampled clear (R166; log 1). While RESET is low no sample stands, and the three flags read clear, which
is the model's choice (log 2). -/
def Loader.reset : Loader := ⟨⟨false, false, false⟩, .none, Params.default, false, 0, false, []⟩

/-! ## The whole node -/

/-- The Application Port: the response bytes of the last request taken, status first (R178, log 17). -/
structure Port where
  response : List Byte
  deriving DecidableEq, Repr

/-- The state of the node. -/
structure State where
  /-- Commands waiting, the front first. -/
  pending : List Instr
  /-- RESET is held low (R176). -/
  inReset : Bool
  /-- PSEL has been low since RESET rose: no transaction has begun (R179). -/
  pselHeld : Bool
  port : Port
  line : LineInterface
  standingUnit : StandingUnit
  /-- The thirteen counters in counter-number order (R36). -/
  counters : List Nat
  membership : Membership
  cycle : CycleUnit
  /-- The 256 cell records in cell order. -/
  cells : List CellRecord
  sendQueue : SendQueue
  /-- The four fetch slots (R126). -/
  slots : List FetchSlot
  snapshots : Snapshots
  notices : NoticeQueue
  loader : Loader
  /-- The model's own: how many frames the node has started, each of which draws a free value of its own (log 35). -/
  draws : Nat
  deriving DecidableEq, Repr

/-- The node right after a hard reset that ended with every strap clear (R40, R176; log 1). -/
def State.reset : State where
  pending := []
  inReset := false
  pselHeld := false
  port := ⟨[]⟩
  line := LineInterface.reset
  standingUnit := StandingUnit.reset
  counters := List.replicate Config.counters 0
  membership := Membership.reset
  cycle := CycleUnit.reset
  cells := List.replicate Config.cells CellRecord.reset
  sendQueue := SendQueue.reset
  slots := List.replicate Config.fetchSlots FetchSlot.free
  snapshots := Snapshots.reset
  notices := NoticeQueue.reset
  loader := Loader.reset
  draws := 0

/-- The reasons a step stops with a fault: none. No rule of the manual stops the machine, so no meaning faults, and there is
nothing here that could be safe or unsafe (log 6). -/
inductive Fault where
  deriving DecidableEq, Repr

/-- The reasons a step is refused. -/
inductive Refusal where
  /-- Raised by `exec` alone, for a command that has no meaning yet; safe: nothing is claimed of the command. -/
  | notModelled (mnemonic : String)
  deriving DecidableEq, Repr

end Sys2Proof.Machine
end

