-- ==== Sys2Proof/Machine/Line.lean ====
section
/-! DEFINITION. The symbols of a frame: the check, the sender's stream with its resync symbols, the receiver that judges the levels of
the line symbol by symbol, and the sender's judgement of its own frame (R5 to R9, R11 to R17). -/

namespace Sys2Proof.Machine

/-! ## Bits and the check -/

/-- A field's symbols, most significant first (R7). -/
def bitsOf {w : Nat} (x : BitVec w) : List Level := (List.range w).map fun i => x.getMsbD i

/-- The number that symbols spell, most significant first (R7). -/
def ofBits (l : List Level) : Nat := l.foldl (fun n b => 2 * n + b.toNat) 0

/-- One covered symbol entering the check register: combined with stage 15, shift, invert stages 15, 11, 10, 8, 7, 4, 2 and 0 (R9). -/
def crcStep (r : BitVec 16) (b : Level) : BitVec 16 :=
  if r.msb ^^ b then (r <<< 1) ^^^ 0x8D95#16 else r <<< 1

/-- The check over a run of symbols: the register starts at all ones and has no final inversion (R9). -/
def crcBits (l : List Level) : BitVec 16 := l.foldl crcStep 0xFFFF#16

/-- The check applied to bytes, each most significant bit first (R9). -/
def crcBytes (l : List Byte) : BitVec 16 := crcBits (l.flatMap bitsOf)

/-! ## The sender -/

end Sys2Proof.Machine

namespace Sys2Proof

open Sys2Proof.Machine

/-- The kind field's value (R7). -/
def FrameBody.kind : FrameBody → BitVec 3
  | .mark _ => 0
  | .presence _ _ _ _ _ => 1
  | .publication _ _ _ => 2
  | .fetch => 3

/-- The header of each kind (R7, R8). -/
def FrameBody.header : FrameBody → List Level
  | .mark n => bitsOf n
  | .presence d guarded leaving eligible lead => bitsOf d ++ [guarded, leaving, eligible, lead]
  | .publication v t data => bitsOf v ++ bitsOf t ++ bitsOf (BitVec.ofNat 5 data.length) ++ data.flatMap bitsOf
  | .fetch => []

/-- The contention field: class, subject, station (R7). -/
def Frame.contention (f : Frame) : List Level := bitsOf f.cls ++ bitsOf f.subject ++ bitsOf f.station

/-- The symbols the check covers: from the first class symbol to the last header symbol (R9). -/
def Frame.covered (f : Frame) : List Level := f.contention ++ bitsOf f.body.kind ++ f.body.header

/-- The check of a frame (R9). -/
def Frame.check (f : Frame) : BitVec 16 := crcBits f.covered

/-- The field symbols: start symbol, contention field, kind, header, check (R7). -/
def Frame.fieldSymbols (f : Frame) : List Level := false :: (f.covered ++ bitsOf f.check)

/-- Field symbols with their parts: the start symbol and the contention field are compared as R11 states, the rest as R12 does. -/
def Frame.tagged (f : Frame) : List TxSymbol :=
  (false :: f.contention).map (⟨·, .contention⟩)
    ++ (bitsOf f.body.kind ++ f.body.header ++ bitsOf f.check).map (⟨·, .body⟩)

end Sys2Proof

namespace Sys2Proof.Machine

/-- Resync insertion: after six equal levels on the line, resync symbols included, one symbol of the opposite level, which begins a
new count at 1 (R5). `last` and `run` are the level and the count so far. -/
def insertResync (last : Level) (run : Nat) : List TxSymbol → List TxSymbol
  | [] => []
  | x :: xs =>
    if (if x.level = last then run + 1 else 1) = 6 then x :: ⟨!x.level, .resync⟩ :: insertResync (!x.level) 1 xs
    else x :: insertResync x.level (if x.level = last then run + 1 else 1) xs

/-- Guard, acknowledge and the eight end-field symbols, as a sender sends them: all recessive (R7, R16). -/
def trailer : List TxSymbol := ⟨true, .guard⟩ :: ⟨true, .ack⟩ :: List.replicate 8 ⟨true, .endField⟩

end Sys2Proof.Machine

namespace Sys2Proof

open Sys2Proof.Machine

/-- The stream a sender sends for a frame: its field symbols with resync symbols inserted, then the trailer (R5, R7). -/
def Frame.stream (f : Frame) : List TxSymbol := insertResync true 0 f.tagged ++ trailer

/-- The levels on the line when a frame is sent alone and acknowledged: the sender's stream with the acknowledge symbol dominant
(R15, R17). -/
def Frame.onLine (f : Frame) : List Level :=
  (insertResync true 0 f.tagged).map TxSymbol.level ++ [true, false] ++ List.replicate 8 true

end Sys2Proof

namespace Sys2Proof.Machine

/-- The outcomes of an own frame (R16, R17). -/
inductive OutcomeKind where
  | sent
  | lost
  | clash
  | vetoed
  | lone
  deriving DecidableEq, Repr

/-- The sender's judgement: its stream against the levels seen, from the start symbol on. It answers an outcome when the levels end
exactly at the deciding symbol (R11, R12, R16, R17). -/
def judgeSend : List TxSymbol → List Level → Option OutcomeKind
  | x :: xs, l :: ls =>
    if x.part = .ack then
      if l then (if ls = [] then some .lone else none) else judgeSend xs ls
    else if x.level = l then
      if x.part = .endField ∧ xs = [] then (if ls = [] then some .sent else none) else judgeSend xs ls
    else if ls = [] then
      if x.part = .contention ∧ x.level then some .lost
      else if x.part = .endField then some .vetoed
      else some .clash
    else none
  | [], _ => none
  | _ :: _, [] => none

/-! ## The receiver -/

/-- Where a receiver stands in the frame it tracks (R6, R7, R13, R15). -/
inductive RxPhase where
  /-- In the stretch from the start symbol to the last check symbol. -/
  | fields
  /-- The resync symbol due after the last check symbol. -/
  | lastResync
  | guard
  | ack
  /-- In the end field, so many of its symbols seen. -/
  | endField (seen : Nat)
  deriving DecidableEq, Repr

/-- The receiver: the last level and how often it came in a row, the field symbols without resync symbols, and the phase. -/
structure Rx where
  last : Level
  run : Nat
  got : List Level
  phase : RxPhase
  deriving DecidableEq, Repr

/-- Before the start symbol. -/
def Rx.start : Rx := ⟨true, 0, [], .fields⟩

/-- How a reception ends (R13, R15), or that the levels seen do not end at the deciding symbol. -/
inductive Verdict where
  | incomplete
  | fault (kind : FaultKind)
  | discarded
  | taken (frame : Frame)
  deriving DecidableEq, Repr

/-- The number in a stretch of the field symbols: `n` symbols from position `k`, the start symbol at position 0. -/
def fieldAt (got : List Level) (k n : Nat) : Nat := ofBits ((got.drop k).take n)

/-- How many field symbols the frame has, once its kind (and a publication's length) is known: 51, 55, 56 + 8n, 35 (R7, R8). -/
def fieldTotal (got : List Level) : Option Nat :=
  if got.length < 19 then none
  else
    match fieldAt got 16 3 with
    | 0 => some 51
    | 1 => some 55
    | 2 => if got.length < 40 then none else some (56 + 8 * fieldAt got 35 5)
    | 3 => some 35
    | _ => none

/-- The format errors found at a field symbol: station 0 at the last station symbol, a kind of 4 to 7 at the last kind symbol, a
publication length above 16 at the last length symbol (R13). -/
def formatError (got : List Level) : Bool :=
  (got.length == 16 && fieldAt got 11 5 == 0)
    || (got.length == 19 && decide (3 < fieldAt got 16 3))
    || (got.length == 40 && fieldAt got 16 3 == 2 && decide (16 < fieldAt got 35 5))

/-- The header read back from the field symbols (R7, R8). -/
def bodyOf (got : List Level) : FrameBody :=
  match fieldAt got 16 3 with
  | 0 => .mark (BitVec.ofNat 16 (fieldAt got 19 16))
  | 1 => .presence (BitVec.ofNat 16 (fieldAt got 19 16)) (got.getD 35 false) (got.getD 36 false) (got.getD 37 false) (got.getD 38 false)
  | 2 => .publication (BitVec.ofNat 8 (fieldAt got 19 8)) (BitVec.ofNat 8 (fieldAt got 27 8))
      ((List.range (fieldAt got 35 5)).map fun i => BitVec.ofNat 8 (fieldAt got (40 + 8 * i) 8))
  | _ => .fetch

/-- The frame read back from the field symbols (R7). -/
def frameOf (got : List Level) : Frame where
  cls := BitVec.ofNat 2 (fieldAt got 1 2)
  subject := BitVec.ofNat 8 (fieldAt got 3 8)
  station := BitVec.ofNat 5 (fieldAt got 11 5)
  body := bodyOf got

/-- Does the check received equal the check computed over the covered symbols? (R9, R13) -/
def checkGood (got : List Level) : Bool :=
  fieldAt got (got.length - 16) 16 == (crcBits ((got.take (got.length - 16)).drop 1)).toNat

/-- After the last check symbol, and the resync symbol due after it: a check error, or on to the guard symbol (R13). -/
def Rx.afterCheck (rx : Rx) : Rx ⊕ Verdict :=
  if checkGood rx.got then .inl { rx with phase := .guard } else .inr (.fault .check)

/-- A field symbol joins those received (R6, R13). -/
def Rx.takeField (rx : Rx) (l : Level) (run : Nat) : Rx ⊕ Verdict :=
  let rx' : Rx := ⟨l, run, rx.got ++ [l], .fields⟩
  if formatError rx'.got then .inr (.fault .format)
  else if fieldTotal rx'.got = some rx'.got.length then
    if run = 6 then .inl { rx' with phase := .lastResync } else rx'.afterCheck
  else .inl rx'

/-- One symbol seen by the receiver (R6, R13, R15). -/
def Rx.step (rx : Rx) (l : Level) : Rx ⊕ Verdict :=
  match rx.phase with
  | .fields =>
    if rx.run = 6 then
      if l = rx.last then .inr (.fault .coding) else .inl { rx with last := l, run := 1 }
    else rx.takeField l (if l = rx.last then rx.run + 1 else 1)
  | .lastResync => if l = rx.last then .inr (.fault .coding) else rx.afterCheck
  | .guard => if l then .inl { rx with phase := .ack } else .inr (.fault .format)
  | .ack => .inl { rx with phase := .endField 0 }
  | .endField n =>
    if l then (if n = 7 then .inr (.taken (frameOf rx.got)) else .inl { rx with phase := .endField (n + 1) }) else .inr .discarded

/-- The receiver over the levels seen; it answers when they end exactly at the deciding symbol. -/
def Rx.feed (rx : Rx) : List Level → Verdict
  | [] => .incomplete
  | l :: ls =>
    match rx.step l with
    | .inl rx' => rx'.feed ls
    | .inr v => if ls = [] then v else .incomplete

/-- The receiver over a whole frame from its start symbol, which is dominant (R3, R13, R15). -/
def receive (levels : List Level) : Verdict :=
  if levels.head? = some false then Rx.start.feed levels else .incomplete

/-! ## Events as reported or as seen -/

end Sys2Proof.Machine

namespace Sys2Proof

open Sys2Proof.Machine

/-- The frame that a FRAME_TAKEN event hands over, if the event is one (R13, R15). -/
def FrameView.frame? : FrameView → Option Frame
  | .reported f => if f.wellFormed then some f else none
  | .seen ls => match receive ls with
    | .taken f => some f
    | .incomplete | .fault _ | .discarded => none

/-- The kind of a RECEIVE_FAULT event, if the event is one (R13). -/
def FaultView.kind? : FaultView → Option FaultKind
  | .reported k _ => some k
  | .seen ls => match receive ls with
    | .fault k => some k
    | .incomplete | .taken _ | .discarded => none

/-- Is this a FRAME_DISCARDED event? (R15) -/
def LineView.discards : LineView → Bool
  | .reported _ => true
  | .seen ls => receive ls == .discarded

/-- Do the levels seen give this outcome to the frame being sent? (R11, R12, R16, R17) -/
def LineView.gives (v : LineView) (tx : List TxSymbol) (o : OutcomeKind) : Bool :=
  match v with
  | .reported _ => true
  | .seen ls => judgeSend tx ls == some o

/-- The consecutive dominant symbols at the end of the levels seen. The line before a frame is recessive, so the run lies in them (R19). -/
def dominantRunOf (levels : List Level) : Nat := (levels.reverse.takeWhile fun l => !l).length

/-- The consecutive dominant symbols at the deciding symbol (R19). -/
def LineView.dominantRun : LineView → Nat
  | .reported run => run
  | .seen ls => dominantRunOf ls

/-- The consecutive dominant symbols at the symbol where the fault is found (R19). -/
def FaultView.dominantRun : FaultView → Nat
  | .reported _ run => run
  | .seen ls => dominantRunOf ls

end Sys2Proof
end

