-- ==== Sys2Proof/Machine/Operands.lean ====
section
/-! DEFINITION. Every operand and result form: the codes of the manual's names, the range checks of configuration values, the cell
record, the configuration memory, and the bytes of results (R80, R125, R136, R168 to R173, R181 to R196). -/

namespace Sys2Proof.Machine

/-! ## Codes -/

/-- The node state as RDSTAT codes it (R40). -/
def NodeState.code : NodeState → Nat
  | .loading => 0
  | .config => 1
  | .listening => 2
  | .member => 3
  | .leaving => 4
  | .cutOff => 5
  | .detached => 6
  | .halted => 7

/-- The standing's code (R27, R190). -/
def Standing.code : Standing → Nat
  | .active => 0
  | .guarded => 1
  | .silent => 2

/-- The Roster state's code (R189). -/
def RosterState.code : RosterState → Nat
  | .absent => 0
  | .present => 1
  | .foreign => 2
  | .self => 3

/-- The effective role's code (R80). -/
def EffRole.code : EffRole → Nat
  | .unused => 0
  | .own => 1
  | .follow => 2
  | .yielded => 3

/-- The freshness's code (R80). -/
def Freshness.code : Freshness → Nat
  | .never => 0
  | .fresh => 1
  | .stale => 2
  | .lost => 3

/-- The load status's code (R166). -/
def LoadStatus.code : LoadStatus → Nat
  | .none => 0
  | .good => 1
  | .noMemory => 2
  | .badCheck => 3

/-- The area's code (R141). -/
def AreaId.code : AreaId → Nat
  | .a => 0
  | .b => 1

/-- The reason's code (R125). -/
def Reason.code : Reason → Nat
  | .cyclic => 0
  | .change => 1
  | .answer => 2
  | .clash => 3
  | .join => 4
  | .request => 5

/-- The outcome's code (R125). -/
def OutcomeKind.code : OutcomeKind → Nat
  | .sent => 0
  | .lost => 1
  | .clash => 2
  | .vetoed => 3
  | .lone => 4

/-- The counter's number (R36). -/
def CounterId.number : CounterId → Nat
  | .sentFrames => 0
  | .takenFrames => 1
  | .sendFaults => 2
  | .receiveFaults => 3
  | .vetoes => 4
  | .loneSends => 5
  | .lostContentions => 6
  | .staleCopies => 7
  | .missedVersions => 8
  | .ownerClashes => 9
  | .tagSkews => 10
  | .snapshotDrops => 11
  | .noticesLost => 12

/-- The notice kind's code (09_notices.md, Notice kinds). -/
def NoticeKind.code : NoticeKind → Nat
  | .joined => 0
  | .detached => 1
  | .cutOff => 2
  | .recovered => 3
  | .halted => 4
  | .stationPresent => 5
  | .stationAbsent => 6
  | .stationForeign => 7
  | .leadTaken => 8
  | .leadDropped => 9
  | .cycleSlip => 10
  | .cycleLost => 11
  | .cycleFound => 12
  | .standing => 13
  | .highError => 14
  | .lineStuck => 15
  | .driverTimeout => 16
  | .threshold => 17
  | .cellStale => 18
  | .cellLost => 19
  | .cellFresh => 20
  | .ownerChanged => 21
  | .claimLost => 22
  | .claimClash => 23
  | .claimRegained => 24
  | .lengthClash => 25
  | .versionClash => 26
  | .sendFailed => 27
  | .sendCancelled => 28
  | .queueBacklog => 29
  | .fetchDone => 30
  | .fetchFailed => 31
  | .snapshotReady => 32
  | .snapshotDropped => 33

/-- The position of OVERFLOW in the signal mask (R159, R182). -/
def overflowBit : Nat := 34

/-- The source of a notice kind, for the order at one event (R155).
DESIGN CHOICE, log 34: the Standing Unit is two sources, `standing` and `monitor`, and the Cycle Unit two, `cycleUnit` and `lead`, for their
chapters state no order between those notices of one event; and THRESHOLD is a source of its own. -/
def NoticeKind.source : NoticeKind → Source
  | .lineStuck => .lineInterface
  | .standing | .driverTimeout => .standing
  | .highError => .monitor
  | .threshold => .threshold
  | .joined | .detached | .cutOff | .recovered | .halted | .stationPresent | .stationAbsent | .stationForeign => .membership
  | .cycleSlip | .cycleLost | .cycleFound => .cycleUnit
  | .leadTaken | .leadDropped => .lead
  | .cellStale | .cellLost | .cellFresh | .ownerChanged | .claimLost | .claimClash | .claimRegained | .lengthClash
  | .versionClash => .cellEngine
  | .sendFailed | .sendCancelled | .queueBacklog => .queue
  | .fetchDone | .fetchFailed => .fetchUnit
  | .snapshotReady | .snapshotDropped => .snapshotUnit

/-- The status of a response (R179). -/
inductive Status where
  | ok
  | pending
  | busy
  | refused
  | locked
  | noStation
  | badOperand
  | badRole
  | noOwner
  | full
  | noEntry
  | inFlight
  | empty
  | unknown
  deriving DecidableEq, Repr

/-- The status byte (R179). -/
def Status.code : Status → Nat
  | .ok => 0
  | .pending => 1
  | .busy => 2
  | .refused => 3
  | .locked => 4
  | .noStation => 5
  | .badOperand => 6
  | .badRole => 7
  | .noOwner => 8
  | .full => 9
  | .noEntry => 10
  | .inFlight => 11
  | .empty => 12
  | .unknown => 13

/-! ## Bytes -/

/-- A number as a byte. -/
def byte (n : Nat) : Byte := BitVec.ofNat 8 n

/-- A two-byte value, high byte first (R187 to R190). -/
def bytes2 (n : Nat) : List Byte := [byte (n / 256), byte n]

/-- A flag as a number. -/
def flag (b : Bool) : Nat := b.toNat

/-! ## Configuration values (R172, R173, R181, R182) -/

/-- `n` bits of a 40-bit value from bit `lo` on. -/
def bits40 (v : BitVec 40) (lo n : Nat) : Nat := (v.toNat / 2 ^ lo) % 2 ^ n

/-- A role code (R173); 3 is out of range. -/
def roleOf : Nat → Option Role
  | 0 => some .unused
  | 1 => some .own
  | 2 => some .follow
  | _ => none

/-- A policy code (R173); 3 is out of range. -/
def policyOf : Nat → Option Policy
  | 0 => some .cyclic
  | 1 => some .onChange
  | 2 => some .onRequest
  | _ => none

/-- The configured part that a cell record's 40-bit value spells, when every field is in range: bits 39-38 role, 37-36 class,
35-34 policy, 33 snapshot flag, 32 zero, 31-27 length, 26-20 K, 19-14 phase, 13-7 G, 6-0 E (R173, R181, Cell record). -/
def cellConfigOf (v : BitVec 40) : Option CellConfig :=
  match roleOf (bits40 v 38 2), policyOf (bits40 v 34 2) with
  | some role, some policy =>
    if 1 ≤ bits40 v 36 2 ∧ bits40 v 32 1 = 0 ∧ bits40 v 27 5 ≤ 16 ∧ 1 ≤ bits40 v 20 7 ∧ bits40 v 20 7 ≤ 64
        ∧ bits40 v 14 6 < bits40 v 20 7 ∧ bits40 v 7 7 ≤ 64 ∧ bits40 v 0 7 ≤ 64 then
      some {
        role := role
        cls := BitVec.ofNat 2 (bits40 v 36 2)
        length := bits40 v 27 5
        snapshot := bits40 v 33 1 = 1
        policy := policy
        period := bits40 v 20 7
        phase := bits40 v 14 6
        gap := bits40 v 7 7
        expected := bits40 v 0 7 }
    else none
  | _, _ => none

/-- One parameter set to a value, or none for a number above 19 or a value out of range (R172, R182). -/
def Params.set (p : Params) (number : Nat) (v : BitVec 40) : Option Params :=
  let n := v.toNat
  match number with
  | 0 => if n ≤ 31 then some { p with station := BitVec.ofNat 5 n } else none
  | 1 => if n ≤ 4 then some { p with rateCode := n } else none
  | 2 => if 10 ≤ n ∧ n ≤ 65535 then some { p with period := n } else none
  | 3 => if 1 ≤ n ∧ n ≤ 16 then some { p with presenceInterval := n } else none
  | 4 => if n ≤ 1 then some { p with leadEligible := n = 1 } else none
  | 5 => if 64 ≤ n ∧ n ≤ 1024 then some { p with takeoverStep := n } else none
  | 6 => if 2 ≤ n ∧ n ≤ 16 then some { p with listenWindow := n } else none
  | 7 => if n ≤ 7 then some { p with retryLimit := n } else none
  | 8 => if n ≤ 1 then some { p with sendOrder := if n = 1 then .arrival else .key } else none
  | 9 => if 1 ≤ n ∧ n ≤ 16 then some { p with fetchTimeout := n } else none
  | 10 => if 1 ≤ n ∧ n ≤ 3 then some { p with fetchTries := n } else none
  | 11 => if n ≤ 1 then some { p with autoRecovery := n = 1 } else none
  | 12 => if n ≤ 1 then some { p with noticeOverflow := if n = 1 then .keepNew else .keepOld } else none
  | 13 => if n < 2 ^ 34 then some { p with recordMask := BitVec.ofNat 34 n } else none
  | 14 => if n < 2 ^ 35 then some { p with signalMask := BitVec.ofNat 35 n } else none
  | 15 => if n ≤ 1 then some { p with snapshotPolicy := if n = 1 then .keepFirst else .keepNewest } else none
  | 16 => if n ≤ 65535 then some { p with thrSendFaults := n } else none
  | 17 => if n ≤ 65535 then some { p with thrReceiveFaults := n } else none
  | 18 => if n ≤ 65535 then some { p with thrMissedVersions := n } else none
  | 19 => if n ≤ 65535 then some { p with thrOwnerClashes := n } else none
  | _ => none

/-- The six bytes of the configuration digest: symbol rate code, P, I, takeover step (R175). -/
def Params.digestBytes (p : Params) : List Byte :=
  [byte p.rateCode] ++ bytes2 p.period ++ [byte p.presenceInterval] ++ bytes2 p.takeoverStep

/-- The configuration digest (R175). -/
def Params.digest (p : Params) : BitVec 16 := crcBytes p.digestBytes

/-! ## The configuration memory (R168 to R170) -/

/-- A value of one byte at position `i`, as a parameter value. -/
def memOne (levels : List Level) (restLevel : Level) (i : Nat) : BitVec 40 := (memByte levels restLevel i).setWidth 40

/-- A value of two bytes at position `i`, high byte first. -/
def memTwo (levels : List Level) (restLevel : Level) (i : Nat) : BitVec 40 :=
  (memByte levels restLevel i ++ memByte levels restLevel (i + 1)).setWidth 40

/-- The parameter block: parameter number, position in the memory, and whether it takes two bytes (R169, Configuration memory).
The two masks, numbers 13 and 14, are not in the memory. -/
def parameterBlock : List (Nat × Nat × Bool) :=
  [(0, 2, false), (1, 3, false), (2, 4, true), (3, 6, false), (4, 7, false), (5, 8, true), (6, 10, false), (7, 11, false),
   (8, 12, false), (9, 13, false), (10, 14, false), (11, 15, false), (12, 16, false), (15, 17, false), (16, 18, true), (17, 20, true),
   (18, 22, true), (19, 24, true)]

/-- The node parameters that the memory gives, the masks from the store, when every value is in range (R169). -/
def memParams (levels : List Level) (restLevel : Level) (store : Params) : Option Params :=
  parameterBlock.foldl
    (fun acc row => acc.bind fun p =>
      p.set row.1 (if row.2.2 then memTwo levels restLevel row.2.1 else memOne levels restLevel row.2.1))
    (some store)

/-- The cell count N (R169). -/
def memCount (levels : List Level) (restLevel : Level) : Nat := (memTwo levels restLevel 26).toNat

/-- Cell record `i`: its cell number and its 40-bit value (R169, Cell record). -/
def memRecord (levels : List Level) (restLevel : Level) (i : Nat) : CellNo × BitVec 40 :=
  let b := memByte levels restLevel
  (b (28 + 6 * i), value40 (b (29 + 6 * i)) (b (30 + 6 * i)) (b (31 + 6 * i)) (b (32 + 6 * i)) (b (33 + 6 * i)))

/-- Do no two of these cell numbers coincide? (R170) -/
def distinctCells : List CellNo → Bool
  | [] => true
  | c :: cs => !cs.contains c && distinctCells cs

/-- Cell records with every field in range and no cell number twice (R169, R170). -/
def recordsOf (raw : List (CellNo × BitVec 40)) : Option (List (CellNo × CellConfig)) :=
  if distinctCells (raw.map Prod.fst) then
    raw.foldr (fun r acc => acc.bind fun l => (cellConfigOf r.2).map fun cfg => (r.1, cfg) :: l) (some [])
  else none

/-- The bytes the check covers: bytes 2 to 27 + 6N (R169). -/
def memChecked (levels : List Level) (restLevel : Level) : List Byte :=
  (List.range (26 + 6 * memCount levels restLevel)).map fun i => memByte levels restLevel (i + 2)

/-- Does the check of the memory equal the CRC computed? (R169, R170) -/
def memCheckGood (levels : List Level) (restLevel : Level) : Bool :=
  memTwo levels restLevel (28 + 6 * memCount levels restLevel) == (crcBytes (memChecked levels restLevel)).setWidth 40

/-- How a preload ends (R170). -/
inductive PreloadResult where
  | noMemory
  | badCheck
  | good (params : Params) (records : List (CellNo × CellConfig))
  deriving DecidableEq, Repr

/-- The preload's judgement of the levels read from the memory (R169, R170). -/
def preload (levels : List Level) (restLevel : Level) (store : Params) : PreloadResult :=
  if memByte levels restLevel 0 ≠ 0xA5#8 ∨ memByte levels restLevel 1 ≠ 0x3C#8 then .noMemory
  else if 256 < memCount levels restLevel then .badCheck
  else
    match memParams levels restLevel store,
      recordsOf ((List.range (memCount levels restLevel)).map (memRecord levels restLevel)) with
    | some p, some rs => if memCheckGood levels restLevel then .good p rs else .badCheck
    | _, _ => .badCheck

/-! ## Results -/

/-- The results of RDCELL (R187). -/
def CellRecord.results (r : CellRecord) : List Byte :=
  [byte r.eff.code, byte r.cfg.length, r.version, byte r.owner.toNat, byte r.freshness.code, byte r.age]
    ++ bytes2 r.takeCycle.toNat ++ r.value

/-- The results of SNREAD (R195). -/
def CellCopy.results (c : CellCopy) : List Byte :=
  [byte c.eff.code, byte c.length, c.version, byte c.owner.toNat, byte c.freshness.code, byte c.age] ++ c.value

/-- The seven bytes of a notice record (R186). -/
def Notice.results (n : Notice) : List Byte :=
  [byte n.kind.code, byte (flag n.cell.isSome), n.cell.getD 0, byte n.station.toNat] ++ bytes2 n.stamp.toNat ++ [n.detail]

/-- The results of RDROST for an entry other than SELF (R189). -/
def RosterEntry.results (e : RosterEntry) : List Byte :=
  [byte e.state.code, byte e.silence] ++ bytes2 e.digest.toNat ++ [byte e.standing.code, byte (flag e.eligible), byte (flag e.lead)]

/-- The results of SNOPEN (R194). -/
def Area.results (a : Area) (id : AreaId) : List Byte :=
  [byte id.code] ++ bytes2 a.cycle.toNat ++ [byte (flag a.complete)] ++ bytes2 a.count

end Sys2Proof.Machine
end

