-- ==== Sys2Proof/Machine/Flags.lean ====
section
/-! DEFINITION. Every count, flag and condition the manual computes, as functions of plain values: fault counts and standing (R24, R25,
R27), counters and thresholds (R36, R38), the high-error window (R33), ATTN and the masks (R155, R161), aging (R91, R92), versions and
tags (R88, R90), cycle conditions (R66, R97), and the keys of the send order (R112, R113). -/

namespace Sys2Proof.Machine

/-! ## Fault counts and standing -/

/-- The send fault count after an outcome (R24). -/
def sendFaultsAfter (o : OutcomeKind) (n : Nat) : Nat :=
  match o with
  | .clash | .vetoed => if n < 240 then n + 6 else n
  | .lone => if n < 120 then min (n + 6) 120 else n
  | .sent => n - 1
  | .lost => n

/-- The receive fault count after a receive fault: plus 1, resting at 127 (R25). -/
def recvFaultsAfterFault (n : Nat) : Nat := if n < 127 then n + 1 else n

/-- The receive fault count after a frame taken: minus 1, resting at 0 (R25). -/
def recvFaultsAfterTake (n : Nat) : Nat := n - 1

/-- The standing that the fault counts give (R27). -/
def standingOf (send recv : Nat) : Standing :=
  if 240 ≤ send then .silent else if 120 ≤ send ∨ 120 ≤ recv then .guarded else .active

/-! ## Counters and thresholds -/

/-- A counter after an increment: saturating at 65535 (R36). -/
def counterAfter (n amount : Nat) : Nat := min (n + amount) 65535

/-- The threshold of a counter, for the four that have one (R38). -/
def Params.threshold (p : Params) : CounterId → Option Nat
  | .sendFaults => some p.thrSendFaults
  | .receiveFaults => some p.thrReceiveFaults
  | .missedVersions => some p.thrMissedVersions
  | .ownerClashes => some p.thrOwnerClashes
  | .sentFrames | .takenFrames | .vetoes | .loneSends | .lostContentions | .staleCopies | .tagSkews | .snapshotDrops
  | .noticesLost => none

/-- Does an increment from `old` to `new` pass the threshold? (R38) -/
def passesThreshold (threshold : Option Nat) (old new : Nat) : Bool :=
  match threshold with
  | some t => decide (old ≤ t ∧ t < new)
  | none => false

/-! ## The high-error window -/

/-- Observations in a window (R33). -/
def windowLength : Nat := 32

/-- HIGH_ERROR after a window with so many faults is judged (R33). -/
def highErrorAfter (faults : Nat) (highError : Bool) : Bool :=
  if 8 ≤ faults then true else if 2 ≤ faults then highError else false

/-! ## Notices -/

/-- Is the notice kind in the record mask? (R155, R182) -/
def inRecordMask (p : Params) (k : NoticeKind) : Bool := p.recordMask.getLsbD k.code

/-- Is the notice kind in the signal mask? (R161, R182) -/
def inSignalMask (p : Params) (k : NoticeKind) : Bool := p.signalMask.getLsbD k.code

/-- The condition of ATTN: a record of a signalled kind, or the overflow flag with OVERFLOW in the signal mask (R161). -/
def attnOf (p : Params) (list : List Notice) (overflow : Bool) : Bool :=
  list.any (fun n => inSignalMask p n.kind) || (overflow && p.signalMask.getLsbD overflowBit)

/-! ## Aging, versions and tags -/

/-- A count that rests at 255 (R54, R78). -/
def restUp (n : Nat) : Nat := if n < 255 then n + 1 else n

/-- Is this a replica that ages: FOLLOW or YIELDED, FRESH or STALE? (R91) -/
def CellRecord.ages (r : CellRecord) : Bool :=
  (r.eff == .follow || r.eff == .yielded) && (r.freshness == .fresh || r.freshness == .stale)

/-- Is the FRESH replica's age above E, with E above 0? (R91) -/
def CellRecord.staleDue (r : CellRecord) : Bool :=
  (r.eff == .follow || r.eff == .yielded) && r.freshness == .fresh && decide (0 < r.cfg.expected) && decide (r.cfg.expected < r.age)

/-- The age at which a STALE replica is LOST: above four times E, or 255 where the age rests (R92). -/
def lostAge (expected : Nat) : Nat := min (4 * expected + 1) 255

/-- Is the STALE replica's age past four times E? (R92, R93) -/
def CellRecord.lostDue (r : CellRecord) : Bool :=
  r.freshness == .stale && decide (0 < r.cfg.expected) && decide (lostAge r.cfg.expected ≤ r.age)

/-- Has the gap of an ON_CHANGE OWN cell passed with a change held? (R96) -/
def CellRecord.gapEndDue (r : CellRecord) : Bool := r.eff == .own && r.cfg.policy == .onChange && r.held && r.gapCount == 0

/-- Does the cell raise a CYCLIC trigger at this cycle number? (R97) -/
def CellRecord.cyclicDue (r : CellRecord) (number : CycleNo) : Bool :=
  r.eff == .own && r.cfg.policy == .cyclic && number.toNat % r.cfg.period == r.cfg.phase

/-- What a cycle start does to a record before any is judged: replicas age, gaps count down (R91, R96). -/
def CellRecord.cycle (r : CellRecord) : CellRecord :=
  if r.ages then { r with age := restUp r.age }
  else if r.eff = .own ∧ r.cfg.policy = .onChange then { r with gapCount := r.gapCount - 1 }
  else r

/-- The distance from the recorded version to a publication's (R88). -/
def versionDistance (recorded v : Version) : Nat := (v - recorded).toNat

/-- Does a publication's tag agree with the cycle number or the number before it? (R90) -/
def tagAgrees (tag : BitVec 8) (number : CycleNo) : Bool := tag == number.setWidth 8 || tag == (number - 1).setWidth 8

/-- Is the cell included in snapshots? (R145) -/
def CellRecord.included (r : CellRecord) : Bool := r.cfg.snapshot && (r.cfg.role == .own || r.cfg.role == .follow)

/-- Does the copy leave a snapshot complete? (R145) -/
def CellCopy.current (c : CellCopy) : Bool := c.eff == .own || c.eff == .unused || c.freshness == .fresh

/-! ## Time (in units of half a microsecond, log 3) -/

/-- The period P (R62). -/
def Params.periodUnits (p : Params) : Nat := Config.unitsPerPeriod * p.period

/-- The expiry of the takeover timer: P plus the station number times the takeover step (R74). -/
def Params.takeoverUnits (p : Params) : Nat :=
  p.periodUnits + p.station.toNat * p.takeoverStep * Config.unitsPerSymbol p.rateCode

/-- A number of symbol times (R172). -/
def Params.symbolUnits (p : Params) (n : Nat) : Nat := n * Config.unitsPerSymbol p.rateCode

/-- How many symbols after the one where a fault is found its veto starts: at the next one, and after a check error at the acknowledge
symbol, past the guard symbol (R14). -/
def vetoDelay : FaultKind → Nat
  | .coding | .format => 1
  | .check => 2

/-! ## The send order -/

/-- The contention field of a class and a subject as a number, the node's own station being the same in all (R112). -/
def contentionKey (cls subject : Nat) : Nat := 256 * cls + subject

/-- A candidate of the send order: what it is, its class, its subject, its place in the arrival order (R111 to R113). -/
structure Candidate where
  target : Target
  cls : Nat
  subject : Nat
  place : Nat
  deriving DecidableEq, Repr

/-- Does the first candidate come before the second? In KEY order by contention field, the presence first at equal fields; in ARRIVAL
order by class, then by place (R112, R113). -/
def Candidate.before (order : SendOrder) (a b : Candidate) : Bool :=
  match order with
  | .key =>
    decide (contentionKey a.cls a.subject < contentionKey b.cls b.subject)
      || (contentionKey a.cls a.subject == contentionKey b.cls b.subject && a.target == .presence)
  | .arrival => decide (a.cls < b.cls) || (a.cls == b.cls && decide (a.place < b.place))

/-- The candidate chosen among those that wait (R112, R113). -/
def choose (order : SendOrder) : List Candidate → Option Candidate
  | [] => none
  | c :: cs =>
    match choose order cs with
    | none => some c
    | some d => if d.before order c then some d else some c

/-! ## Status bytes -/

/-- Byte 5 of RDSTAT: lead flag and sync state (R190). -/
def cycleFlags (lead synced : Bool) : Nat := flag lead + 2 * flag synced

/-- The sticky byte of RDSTAT (R190). -/
def stickyByte (highErrorSeen lineStuckSeen syncHeld overflow : Bool) : Nat :=
  flag highErrorSeen + 2 * flag lineStuckSeen + 4 * flag syncHeld + 8 * flag overflow

end Sys2Proof.Machine
end

