-- ==== Sys2Proof/Machine/Ops.lean ====
section
/-! DEFINITION. The named operations over the state, block by block: reads and writes of the blocks, notices and counters, the standing,
the send queue, the fetch slots, the cells, the snapshot areas, the lead, the changes of node state, and the cycle start.
Every meaning in the family files is written over these. -/

namespace Sys2Proof.Machine

/-- What a command answers. -/
abbrev Result := Host.Outcome State Fault Refusal

/-! ## Writes of one block -/

/-- The state with its `pending` replaced. -/
def State.setPending (s : State) (x : List Instr) : State := { s with pending := x }

/-- The state with its `inReset` replaced. -/
def State.setInReset (s : State) (x : Bool) : State := { s with inReset := x }

/-- The state with its `pselHeld` replaced. -/
def State.setPselHeld (s : State) (x : Bool) : State := { s with pselHeld := x }

/-- The state with its `port` replaced. -/
def State.setPort (s : State) (x : Port) : State := { s with port := x }

/-- The state with its `line` replaced. -/
def State.setLine (s : State) (x : LineInterface) : State := { s with line := x }

/-- The state with its `standingUnit` replaced. -/
def State.setStandingUnit (s : State) (x : StandingUnit) : State := { s with standingUnit := x }

/-- The state with its `counters` replaced. -/
def State.setCounters (s : State) (x : List Nat) : State := { s with counters := x }

/-- The state with its `membership` replaced. -/
def State.setMembership (s : State) (x : Membership) : State := { s with membership := x }

/-- The state with its `cycle` replaced. -/
def State.setCycle (s : State) (x : CycleUnit) : State := { s with cycle := x }

/-- The state with its `cells` replaced. -/
def State.setCells (s : State) (x : List CellRecord) : State := { s with cells := x }

/-- The state with its `sendQueue` replaced. -/
def State.setSendQueue (s : State) (x : SendQueue) : State := { s with sendQueue := x }

/-- The state with its `slots` replaced. -/
def State.setSlots (s : State) (x : List FetchSlot) : State := { s with slots := x }

/-- The state with its `snapshots` replaced. -/
def State.setSnapshots (s : State) (x : Snapshots) : State := { s with snapshots := x }

/-- The state with its `notices` replaced. -/
def State.setNotices (s : State) (x : NoticeQueue) : State := { s with notices := x }

/-- The state with its `loader` replaced. -/
def State.setLoader (s : State) (x : Loader) : State := { s with loader := x }

/-- The state with its `draws` replaced. -/
def State.setDraws (s : State) (x : Nat) : State := { s with draws := x }

/-! ## What the node state permits (R2, R41) -/

/-- The node states with the receiver on and the Cycle Unit running (R41). -/
def NodeState.onLine : NodeState → Bool
  | .listening | .member | .leaving | .cutOff => true
  | .loading | .config | .detached | .halted => false

/-- The node states in which the node may drive (R2). -/
def NodeState.drives : NodeState → Bool
  | .listening | .member | .leaving => true
  | .loading | .config | .cutOff | .detached | .halted => false

/-- The node state. -/
def State.node (s : State) : NodeState := s.membership.node

/-- The receiver is on, and the Cycle Unit runs (R41). -/
def State.onLine (s : State) : Bool := s.node.onLine

/-- The node may drive the line (R2). -/
def State.mayDrive (s : State) : Bool := s.node.drives && s.standingUnit.standing != .silent

/-- The node may drive a veto (R2, R14). -/
def State.mayVeto (s : State) : Bool := s.node.drives && s.standingUnit.standing == .active

/-- The node's own station number, 0 while unset. -/
def State.own (s : State) : Station := s.loader.params.station

/-- The node in another node state. -/
def State.setNode (s : State) (n : NodeState) : State := s.setMembership { s.membership with node := n }

/-! ## Cells, Roster entries, fetch slots -/

/-- The record of a cell. -/
def State.cell (s : State) (c : CellNo) : CellRecord := s.cells.getD c.toNat CellRecord.reset

/-- The state with the record of a cell replaced. -/
def State.setCell (s : State) (c : CellNo) (r : CellRecord) : State := s.setCells (s.cells.set c.toNat r)

/-- The cells whose records meet a condition, in ascending order. -/
def State.cellsWhere (s : State) (p : CellRecord → Bool) : List CellNo :=
  s.cells.zipIdx.filterMap fun ri => if p ri.1 then some (BitVec.ofNat 8 ri.2) else none

/-- The Roster entry of a station; station 0 has none and reads as a reset entry (R54). -/
def Membership.entry (m : Membership) (st : Station) : RosterEntry :=
  if st = 0 then RosterEntry.reset else m.roster.getD (st.toNat - 1) RosterEntry.reset

/-- The membership with the Roster entry of a station replaced. -/
def Membership.setEntry (m : Membership) (st : Station) (e : RosterEntry) : Membership :=
  if st = 0 then m else { m with roster := m.roster.set (st.toNat - 1) e }

/-- The Roster entry of a station. -/
def State.entry (s : State) (st : Station) : RosterEntry := s.membership.entry st

/-- The state with the Roster entry of a station replaced. -/
def State.setEntry (s : State) (st : Station) (e : RosterEntry) : State := s.setMembership (s.membership.setEntry st e)

/-- A fetch slot. -/
def State.slot (s : State) (i : Nat) : FetchSlot := s.slots.getD i FetchSlot.free

/-- The state with a fetch slot replaced. -/
def State.setSlot (s : State) (i : Nat) (f : FetchSlot) : State := s.setSlots (s.slots.set i f)

/-- Is the slot in use? (R126) -/
def FetchSlot.inUse (f : FetchSlot) : Bool := f.state != .free

/-- Does the slot hold the cell? (R126) -/
def FetchSlot.holds (f : FetchSlot) (c : CellNo) : Bool := f.inUse && f.cell == c

/-- The number of the slot in use that holds a cell (R126). -/
def State.slotHolding (s : State) (c : CellNo) : Option Nat := s.slots.findIdx? (·.holds c)

/-! ## Notices and counters -/

/-- A block posts a notice: the record is stamped with the cycle number held now and waits in the outbox (R154, R155, log 8). -/
def raise (kind : NoticeKind) (cell : Option CellNo) (station : Station) (detail : Nat) (s : State) : State :=
  s.setNotices { s.notices with outbox := s.notices.outbox ++ [⟨kind, cell, station, s.cycle.number, byte detail⟩] }

/-- An increment of a counter: it saturates, and posts THRESHOLD where it passes the counter's threshold (R36, R38). -/
def count (id : CounterId) (amount : Nat) (s : State) : State :=
  let old := s.counters.getD id.number 0
  let new := counterAfter old amount
  let s' := s.setCounters (s.counters.set id.number new)
  if passesThreshold (s.loader.params.threshold id) old new then raise .threshold none 0 id.number s' else s'

/-- ATTN judged again (R161). -/
def judgeAttn (s : State) : State :=
  s.setNotices { s.notices with attn := attnOf s.loader.params s.notices.list s.notices.overflow }

/-- A notice reaches the Notice Queue: the record mask, then the place at the end, or the overflow rule (R155 to R158, R161). -/
def post (n : Notice) (s : State) : State :=
  let q := s.notices
  if !inRecordMask s.loader.params n.kind then s
  else if q.list.length < Config.noticePlaces then judgeAttn (s.setNotices { q with list := q.list ++ [n] })
  else
    let list := match s.loader.params.noticeOverflow with
      | .keepOld => q.list
      | .keepNew => q.list.dropLast ++ [n]
    let lost := counterAfter (s.counters.getD CounterId.noticesLost.number 0) 1
    judgeAttn ((s.setCounters (s.counters.set CounterId.noticesLost.number lost)).setNotices { q with list := list, overflow := true })

/-- The notices of one event in the order in which they reach the queue: for each turn the next notice of that source, then the rest as
they were raised (R155, log 7, log 8). -/
def arrange : List Source → List Notice → List Notice
  | [], l => l
  | t :: ts, l =>
    match l.find? (·.kind.source == t) with
    | some n => n :: arrange ts (l.erase n)
    | none => arrange ts l

/-- The notices raised at this event reach the Notice Queue, and the outbox is empty again (R155, log 8). -/
def deliver (turns : List Source) (s : State) : State :=
  (arrange turns s.notices.outbox).foldl (fun t n => post n t) (s.setNotices { s.notices with outbox := [] })

/-! ## Commands -/

/-- An event: it does nothing while RESET is low; else it has its effect, and its notices reach the queue (R176, log 8). -/
def event (turns : List Source) (effect : State → State) (s : State) : Result :=
  .next (if s.inReset then s else deliver turns (effect s))

/-- The response of a request: status, then results (R178). -/
def respond (status : Status) (results : List Byte) (s : State) : State := s.setPort ⟨byte status.code :: results⟩

/-- A transaction at the Application Port: none begins while PSEL is low from before RESET rose (R179). -/
def transaction (turns : List Source) (effect : State → State) (s : State) : Result :=
  event turns (fun s => if s.pselHeld then s else effect s) s

/-- A request: BUSY in LOADING; else it is taken by its owner (R171, R179). -/
def request (turns : List Source) (effect : State → State) (s : State) : Result :=
  transaction turns (fun s => if s.node = .loading then respond .busy [] s else effect s) s

/-- A response that carries the node state after the request (R183, R185, R191, R192). -/
def respondNode (status : Status) (s : State) : State := respond status [byte s.node.code] s

/-! ## The Line Interface -/

/-- The driver released: an own frame on the line is abandoned, a veto ends, and one that was due does not start (R1, R2). -/
def releaseDriver (s : State) : State := s.setLine { s.line with driver := .released, vetoDue := none }

/-- Is the line seen outside the fields of a frame: no frame tracked, or the tail of a LONE frame? There START_SYMBOL brings the dominant symbols
that are seen, each as it is seen (R16, R19, log 32). -/
def LineInterface.outside (l : LineInterface) : Bool := l.track == .none || l.track == .trailing

/-- The line becomes STUCK: LINE_STUCK SET is posted and LINE_STUCK_SEEN is set (R19, R34). -/
def stick (s : State) : State :=
  let s := s.setLine { s.line with
    lineState := .stuck
    idleRun := 0
    dominantRun := Config.stuckRun
    elapsed := if s.line.track = .sending then s.line.elapsed else 0 }
  raise .lineStuck none 0 1 (s.setStandingUnit { s.standingUnit with lineStuckSeen := true })

/-- The receiver switched off (R1). -/
def receiverOff (s : State) : State :=
  let was := s.line.lineState
  let s := s.setLine { s.line with
    lineState := .busy
    track := .none
    driver := .released
    vetoDue := none
    idleRun := 0
    dominantRun := 0
    tx := [] }
  if was = .stuck then raise .lineStuck none 0 0 s else s

/-- The receiver switched on: BUSY with every run count 0 (R1). -/
def receiverOn (s : State) : State :=
  s.setLine { s.line with lineState := .busy, track := .none, idleRun := 0, dominantRun := 0 }

/-- The frame tracked has ended: no idle run yet counted after it; the run of dominant symbols goes on (R3, R19). -/
def endFrame (dominantRun : Nat) (s : State) : State :=
  s.setLine { s.line with
    track := .none
    driver := .released
    vetoDue := none
    idleRun := 0
    dominantRun := dominantRun
    tx := []
    elapsed := 0 }

/-- A veto becomes due, to start so many symbols later, at a node that may veto (R12, R14, R28). -/
def dueVeto (symbols : Nat) (s : State) : State :=
  if s.mayVeto then s.setLine { s.line with vetoDue := some (s.loader.params.symbolUnits symbols) } else s

/-- A due veto at its first symbol, if the node may still veto: it is driven for eight symbols and counted in VETOES; the line is then
dominant, and the run of dominant symbols is held at 0 (R2, R3, R14, R19, R21, R22). -/
def beginVeto (s : State) : State :=
  if s.mayVeto then
    count .vetoes 1 (s.setLine { s.line with
      driver := .veto (s.loader.params.symbolUnits Config.vetoSymbols), vetoDue := none, idleRun := 0, dominantRun := 0 })
  else s.setLine { s.line with vetoDue := none }

/-- Time passes for a veto that is driven: the driver is released when its symbols are over (R14). -/
def driveVeto (units : Nat) (s : State) : State :=
  match s.line.driver with
  | .veto left => s.setLine { s.line with driver := if left ≤ units then .released else .veto (left - units) }
  | .released | .frame => s

/-- Time passes for a veto that is due or driven (R12, R14). -/
def passVeto (units : Nat) (s : State) : State :=
  match s.line.vetoDue with
  | some due =>
    if due ≤ units then driveVeto (units - due) (beginVeto s) else s.setLine { s.line with vetoDue := some (due - units) }
  | none => driveVeto units s

/-- A veto that is due or driven has begun and is over: what an event says that cannot come before its last symbol (R3, R19). -/
def finishVeto (s : State) : State :=
  let s := if s.line.vetoDue.isSome then beginVeto s else s
  match s.line.driver with
  | .veto _ => releaseDriver s
  | .released | .frame => s

/-- A veto withdrawn, for the node may veto no longer (R2). -/
def withdrawVeto (s : State) : State :=
  match s.line.driver with
  | .veto _ => releaseDriver s
  | .released | .frame => s.setLine { s.line with vetoDue := none }

/-! ## The Standing Unit -/

/-- The standing made to fit the counts, with STANDING for a change; a standing other than ACTIVE withdraws a veto, and a fall to SILENT
releases the driver and clears the quiet-interval count (R2, R27, R29). -/
def refit (s : State) : State :=
  let u := s.standingUnit
  let st := standingOf u.sendFaults u.recvFaults
  if u.standing = .silent ∨ st = u.standing then s
  else
    let s' := raise .standing none 0 st.code (s.setStandingUnit { u with standing := st })
    match st with
    | .active => s'
    | .guarded => withdrawVeto s'
    | .silent => releaseDriver (s'.setStandingUnit { s'.standingUnit with quiet := 0 })

/-- The Standing Unit counts an outcome of an own frame (R24, R26). -/
def standOutcome (o : OutcomeKind) (s : State) : State :=
  let u := s.standingUnit
  if u.standing = .silent then s else refit (s.setStandingUnit { u with sendFaults := sendFaultsAfter o u.sendFaults })

/-- The observation window is judged and a new one begins (R33, R34). -/
def judgeWindow (s : State) : State :=
  let u := s.standingUnit
  let high := highErrorAfter u.faults u.highError
  let s' := s.setStandingUnit { u with
    observations := 0
    faults := 0
    highError := high
    highErrorSeen := u.highErrorSeen || decide (8 ≤ u.faults) }
  if high = u.highError then s' else raise .highError none 0 (flag high) s'

/-- An observation of the high-error monitor; the one that fills the window closes it (R33). -/
def observe (fault : Bool) (s : State) : State :=
  let u := s.standingUnit
  let s' := s.setStandingUnit { u with observations := u.observations + 1, faults := u.faults + flag fault }
  if windowLength ≤ u.observations + 1 then judgeWindow s' else s'

/-- The Standing Unit counts a receive fault: the monitor and the receive fault count (R25, R26, R33). -/
def standFault (s : State) : State :=
  let s := observe true s
  let u := s.standingUnit
  if u.standing = .silent then s else refit (s.setStandingUnit { u with recvFaults := recvFaultsAfterFault u.recvFaults })

/-- The Standing Unit counts a frame taken (R25, R26, R33). -/
def standTake (s : State) : State :=
  let s := observe false s
  let u := s.standingUnit
  if u.standing = .silent then s else refit (s.setStandingUnit { u with recvFaults := recvFaultsAfterTake u.recvFaults })

/-! ## The Send Queue -/

/-- Has the cell a queue entry, waiting or in flight? (R107) -/
def SendQueue.has (q : SendQueue) (c : CellNo) : Bool := q.entries.any (·.cell == c)

/-- Has the cell a place in the deferred set? (R107) -/
def SendQueue.defers (q : SendQueue) (c : CellNo) : Bool := q.deferred.any (·.1 == c)

/-- Is the cell's entry in flight? (R105) -/
def SendQueue.flies (q : SendQueue) (c : CellNo) : Bool :=
  match q.inFlight with
  | some f => f.target == .entry c
  | none => false

/-- The cell's entry leaves the list (R110). -/
def SendQueue.drop (q : SendQueue) (c : CellNo) : SendQueue := { q with entries := q.entries.filter (·.cell != c) }

/-- The cell leaves the deferred set (R108). -/
def SendQueue.undefer (q : SendQueue) (c : CellNo) : SendQueue := { q with deferred := q.deferred.filter (·.1 != c) }

/-- The cell's entry changed by `f` (R106). -/
def SendQueue.update (q : SendQueue) (c : CellNo) (f : Entry → Entry) : SendQueue :=
  { q with entries := q.entries.map fun e => if e.cell = c then f e else e }

/-- A new entry at the end of the arrival order, while a place is free and the cell has none (R105, R106). -/
def SendQueue.create (q : SendQueue) (kind : EntryKind) (c : CellNo) (reason : Reason) : SendQueue :=
  if q.entries.length < Config.queuePlaces ∧ !q.has c then
    { q with entries := q.entries ++ [⟨kind, c, reason, 0, q.nextArrival, false⟩], nextArrival := q.nextArrival + 1 }
  else q

/-- A cell joins the deferred set, which keeps ascending cell order (R105, R108). -/
def insertDeferred (c : CellNo) (reason : Reason) : List (CellNo × Reason) → List (CellNo × Reason)
  | [] => [(c, reason)]
  | d :: ds => if c < d.1 then (c, reason) :: d :: ds else d :: insertDeferred c reason ds

/-- Is a cell's trigger deferred? The deferred flag of R78 (R108, log 25). -/
def State.deferred (s : State) (c : CellNo) : Bool := s.sendQueue.defers c

/-- A trigger: in MEMBER it merges, creates an entry or defers the cell (R107, R108). -/
def trigger (c : CellNo) (reason : Reason) (s : State) : State :=
  let q := s.sendQueue
  if s.node ≠ .member then s
  else if q.has c then s.setSendQueue (q.update c fun e => { e with cancelRequested := false })
  else if q.defers c then s
  else if q.entries.length < Config.queuePlaces then s.setSendQueue (q.create .publication c reason)
  else
    let s' := s.setSendQueue { q with deferred := insertDeferred c reason q.deferred }
    if q.deferred = [] then raise .queueBacklog (some c) 0 0 s' else s'

/-- The lowest slot REQUESTING without an entry (R110). -/
def State.slotWaiting (s : State) : Option FetchSlot :=
  s.slots.find? fun f => f.state == .requesting && !s.sendQueue.has f.cell

/-- A freed place goes to the lowest waiting fetch slot, else to the lowest deferred cell (R110). -/
def refill (s : State) : State :=
  let q := s.sendQueue
  if s.node ≠ .member ∨ Config.queuePlaces ≤ q.entries.length then s
  else
    match s.slotWaiting with
    | some f => s.setSendQueue (q.create .fetch f.cell .request)
    | none =>
      match q.deferred with
      | [] => s
      | d :: _ => s.setSendQueue ((q.undefer d.1).create .publication d.1 d.2)

/-- A waiting entry of the cell is removed and its place refilled; an entry in flight is left (R109). -/
def removeWaiting (c : CellNo) (s : State) : State :=
  if s.sendQueue.has c ∧ !s.sendQueue.flies c then refill (s.setSendQueue (s.sendQueue.drop c)) else s

/-- The Fetch Unit asks for a FETCH entry: an entry left in flight is taken over with its cancel cleared; else one is created while a
place is free; else the slot waits for a place (R109, R128). -/
def askFetchEntry (c : CellNo) (s : State) : State :=
  if s.sendQueue.has c then s.setSendQueue (s.sendQueue.update c fun e => { e with cancelRequested := false })
  else if s.node = .member then s.setSendQueue (s.sendQueue.create .fetch c .request)
  else s

/-- Every changed flag cleared with a flush (R95). -/
def clearChanged (s : State) : State := s.setCells (s.cells.map fun r => { r with changed := false })

/-- The mark entry made EMPTY (R62). -/
def emptyMark (s : State) : State := s.setCycle { s.cycle with mark := .empty }

/-- The presence entry made empty (R46). -/
def emptyPresence (s : State) : State := s.setMembership { s.membership with presence := PresenceEntry.empty }

/-- The whole flush: list, deferred set, in-flight slot, changed flags, mark entry, presence entry (R123). -/
def flushAll (s : State) : State :=
  s.setSendQueue { s.sendQueue with entries := [], deferred := [], inFlight := none }
    |> clearChanged |> emptyMark |> emptyPresence

/-- Is this target in flight? -/
def State.inFlightIs (s : State) (t : Target) : Bool :=
  match s.sendQueue.inFlight with
  | some f => f.target == t
  | none => false

/-- The flush on entry to LEAVING: what waits goes, the frame in flight stays (R48, R122). -/
def flushWaiting (s : State) : State :=
  let s' := s.setSendQueue { s.sendQueue with entries := s.sendQueue.entries.filter (fun e => s.sendQueue.flies e.cell), deferred := [] }
    |> clearChanged
  let s' := if s.inFlightIs .mark then s' else emptyMark s'
  if s.inFlightIs .presence then s' else emptyPresence s'

/-- The presence entry filled: empty, with attempts 0 at a new place in the arrival order; filled already, the fill merges (R46, R105). -/
def fillPresence (leaving : Bool) (s : State) : State :=
  if s.membership.presence.filled then s
  else
    (s.setMembership { s.membership with presence := ⟨true, leaving, 0, s.sendQueue.nextArrival⟩ }).setSendQueue
      { s.sendQueue with nextArrival := s.sendQueue.nextArrival + 1 }

/-! ## The Fetch Unit -/

/-- A slot becomes FREE (R126). -/
def freeSlot (i : Nat) (s : State) : State := s.setSlot i FetchSlot.free

/-- The slot that holds a cell in REQUESTING reacts to the end of its entry: to AWAITING with timer F (R129, R133). -/
def slotAwaits (c : CellNo) (s : State) : State :=
  match s.slotHolding c with
  | some i =>
    if (s.slot i).state = .requesting then
      s.setSlot i { s.slot i with state := .awaiting, timer := s.loader.params.fetchTimeout }
    else s
  | none => s

/-- The slot that holds a cell in REQUESTING is freed with no notice (R120, R129). -/
def slotCancelled (c : CellNo) (s : State) : State :=
  match s.slotHolding c with
  | some i => if (s.slot i).state = .requesting then freeSlot i s else s
  | none => s

/-- A take of the cell completes the slot that holds it: FREE, FETCH_DONE, its waiting entry removed (R131). -/
def completeFetch (c : CellNo) (sender : Station) (s : State) : State :=
  match s.slotHolding c with
  | some i =>
    let f := s.slot i
    let s' := raise .fetchDone (some c) sender f.tries (freeSlot i s)
    if f.state = .requesting then removeWaiting c s' else s'
  | none => s

/-- A slot in use fails: FREE and FETCH_FAILED (R130, R135, R136). -/
def failSlot (i : Nat) (station : Station) (detail : Nat) (s : State) : State :=
  raise .fetchFailed (some (s.slot i).cell) station detail (freeSlot i s)

/-- Every slot in use fails with ABANDONED, in ascending slot order (R136). -/
def abandonSlots (s : State) : State :=
  (List.range Config.fetchSlots).foldl
    (fun t i => if (t.slot i).inUse then failSlot i (t.cell (t.slot i).cell).owner 2 t else t) s

/-- A departure fails the slots whose cell the station owned, in ascending slot order (R135). -/
def slotsDeparture (st : Station) (s : State) : State :=
  (List.range Config.fetchSlots).foldl
    (fun t i =>
      let f := t.slot i
      if f.inUse && (t.cell f.cell).owner == st then
        let t' := failSlot i st 1 t
        if f.state = .requesting then removeWaiting f.cell t' else t'
      else t) s

/-- A slot AWAITING has reached the end of its try: another round, or FETCH_FAILED with TIMEOUT (R130). -/
def endTry (i : Nat) (s : State) : State :=
  let f := s.slot i
  if f.tries < s.loader.params.fetchTries then
    askFetchEntry f.cell (s.setSlot i { f with state := .requesting, tries := f.tries + 1, timer := 0 })
  else failSlot i (s.cell f.cell).owner 0 s

/-- Is the slot AWAITING with its timer at 0? (R130) -/
def FetchSlot.tryEndDue (f : FetchSlot) : Bool := f.state == .awaiting && f.timer == 0

/-- The slot's timer at a cycle start (R130). -/
def FetchSlot.cycle (f : FetchSlot) : FetchSlot := if f.state = .awaiting then { f with timer := f.timer - 1 } else f

/-! ## The Cell Engine -/

/-- A FRESH replica becomes STALE, with CELL_STALE (R91). -/
def makeStale (c : CellNo) (s : State) : State :=
  let r := s.cell c
  raise .cellStale (some c) r.owner r.age (s.setCell c { r with freshness := .stale })

/-- A FOLLOW replica becomes LOST, with CELL_LOST: detail 0 for aging, 1 for departure (R92, R99). -/
def makeLost (detail : Nat) (c : CellNo) (s : State) : State :=
  let r := s.cell c
  raise .cellLost (some c) r.owner detail (s.setCell c { r with freshness := .lost })

/-- The record of a YIELDED cell that returns to OWN (R93, R101). -/
def CellRecord.regained (own : Station) (r : CellRecord) : CellRecord :=
  { r with eff := .own, owner := own, freshness := .never, age := 0 }

/-- A YIELDED cell is regained, with CLAIM_REGAINED and a JOIN trigger: detail 0 for aging, 1 for departure (R93, R99). -/
def regain (detail : Nat) (c : CellNo) (s : State) : State :=
  let r := s.cell c
  trigger c .join (raise .claimRegained (some c) r.owner detail (s.setCell c (r.regained s.own)))

/-- The gap of a held change has passed: the held flag is cleared and a CHANGE trigger raised (R96). -/
def endGap (c : CellNo) (s : State) : State := trigger c .change (s.setCell c { s.cell c with held := false })

/-- A changed ON_CHANGE cell is published at once, or held while its gap runs (R83, R117). -/
def raiseChange (c : CellNo) (s : State) : State :=
  let r := s.cell c
  if r.gapCount = 0 then trigger c .change s else s.setCell c { r with held := true }

/-- Does the departure of a station concern the record? (R99) -/
def CellRecord.departs (st : Station) (r : CellRecord) : Bool :=
  r.owner == st && (r.eff == .yielded || (r.eff == .follow && (r.freshness == .fresh || r.freshness == .stale)))

/-- A departure: the station's FOLLOW cells become LOST, the cells yielded to it are regained, in ascending order (R99). -/
def cellsDeparture (st : Station) (s : State) : State :=
  (s.cellsWhere (·.departs st)).foldl
    (fun t c => if (t.cell c).eff = .yielded then regain 1 c t else makeLost 1 c t) s

/-- The wholesale clearing of the table on entry to DETACHED (R101). -/
def CellRecord.cleared (own : Station) (r : CellRecord) : CellRecord :=
  if r.eff = .yielded then r.regained own
  else if r.eff = .follow ∧ (r.freshness = .fresh ∨ r.freshness = .stale) then { r with freshness := .lost }
  else r

/-- One cell judged at a cycle start, after the counts have moved: STALE, LOST, regained, the end of its gap, or its cyclic turn
(R91, R92, R93, R96, R97). -/
def judgeCell (c : CellNo) (s : State) : State :=
  let r := s.cell c
  if r.staleDue then makeStale c s
  else if r.lostDue && r.eff == .follow then makeLost 0 c s
  else if r.lostDue && r.eff == .yielded then regain 0 c s
  else if r.gapEndDue then endGap c s
  else if r.cyclicDue s.cycle.number then trigger c .cyclic s
  else s

/-- Has the cycle start anything to judge in the record? -/
def CellRecord.due (number : CycleNo) (r : CellRecord) : Bool := r.staleDue || r.lostDue || r.gapEndDue || r.cyclicDue number

/-- The Cell Engine's work at a cycle start, in ascending cell order (R91 to R97). -/
def cellsCycle (s : State) : State :=
  let s := s.setCells (s.cells.map CellRecord.cycle)
  (s.cellsWhere (CellRecord.due s.cycle.number)).foldl (fun t c => judgeCell c t) s

/-! ## The Roster -/

/-- A departure: the entry becomes ABSENT with silence count 0, STATION_ABSENT is posted, and the Cell Engine and the Fetch Unit react,
in the order that `fetchFirst` chooses: detail 0 for SILENT, 1 for LEFT (R55, R58, R59). -/
def depart (st : Station) (detail : Nat) (fetchFirst : Bool) (s : State) : State :=
  let s := raise .stationAbsent none st detail (s.setEntry st { s.entry st with state := .absent, silence := 0 })
  if fetchFirst then cellsDeparture st (slotsDeparture st s) else slotsDeparture st (cellsDeparture st s)

/-- Is the station heard: PRESENT or FOREIGN? (R57, R58) -/
def RosterEntry.heard (e : RosterEntry) : Bool := e.state == .present || e.state == .foreign

/-- Is the silence count of a station heard above 3 × I? (R58) -/
def RosterEntry.departureDue (interval : Nat) (e : RosterEntry) : Bool := e.heard && decide (3 * interval < e.silence)

/-- The Roster's work at a cycle start for one station (R58). -/
def rosterCycle (st : Station) (fetchFirst : Bool) (s : State) : State :=
  let e := s.entry st
  if e.heard then
    let s := s.setEntry st { e with silence := restUp e.silence }
    if (s.entry st).departureDue s.loader.params.presenceInterval then depart st 0 fetchFirst s else s
  else s

/-- The whole Roster at its reset values with SELF at a station number (R54). -/
def rosterReset (own : Station) : List RosterEntry :=
  if own = 0 then List.replicate Config.stations RosterEntry.reset
  else (List.replicate Config.stations RosterEntry.reset).set (own.toNat - 1) RosterEntry.own

/-- A Roster entry cleared wholesale: reported fields kept (R49). -/
def RosterEntry.cleared (e : RosterEntry) : RosterEntry :=
  if e.state = .self then e else { e with state := .absent, silence := 0 }

/-! ## The Snapshot Unit -/

/-- An area of the unit (R141). -/
def Snapshots.area (n : Snapshots) : AreaId → Area
  | .a => n.areaA
  | .b => n.areaB

/-- An area replaced; the marker no longer names an area that becomes EMPTY (R141). -/
def Snapshots.setArea (n : Snapshots) (id : AreaId) (x : Area) : Snapshots :=
  let newer := if x.state = .empty ∧ n.newer = some id then none else n.newer
  match id with
  | .a => { n with areaA := x, newer := newer }
  | .b => { n with areaB := x, newer := newer }

/-- The area that is READING, if one is (R142). -/
def Snapshots.reading (n : Snapshots) : Option AreaId :=
  if n.areaA.state = .reading then some .a else if n.areaB.state = .reading then some .b else none

/-- The newest READY area, if any: the marker tells when both are READY (R141, R149). -/
def Snapshots.newest (n : Snapshots) : Option AreaId :=
  if n.areaA.state = .ready then
    if n.areaB.state = .ready ∧ n.newer = some .b then some .b else some .a
  else if n.areaB.state = .ready then some .b
  else none

/-- The other area. -/
def AreaId.other : AreaId → AreaId
  | .a => .b
  | .b => .a

/-- The copy of an included cell (R145). -/
def CellRecord.copy (c : CellNo) (r : CellRecord) : CellCopy :=
  ⟨c, r.eff, r.cfg.length, r.value, r.version, r.owner, r.freshness, r.age⟩

/-- The copies of the included cells in ascending order (R145). -/
def State.copies (s : State) : List CellCopy := (s.cellsWhere CellRecord.included).map fun c => (s.cell c).copy c

/-- The area of a freeze: header and copies, labelled with the cycle number held now (R144, R145). -/
def State.frozenArea (s : State) : Area :=
  ⟨.ready, s.cycle.number, s.copies.all CellCopy.current, s.copies.length, s.copies⟩

/-- What a freeze does with the areas (R146, R147). -/
inductive FreezeTarget where
  | into (id : AreaId)
  | overwrite (id : AreaId)
  | skip
  deriving DecidableEq, Repr

/-- The choice of the area (R146, R147). -/
def Snapshots.target (n : Snapshots) (policy : SnapshotPolicy) : FreezeTarget :=
  if n.areaA.state = .empty then .into .a
  else if n.areaB.state = .empty then .into .b
  else
    match policy with
    | .keepFirst => .skip
    | .keepNewest =>
      if n.areaA.state = .ready ∧ n.areaB.state = .ready then .overwrite (if n.newer = some .a then .b else .a)
      else if n.areaA.state = .ready then .overwrite .a
      else if n.areaB.state = .ready then .overwrite .b
      else .skip

/-- A freeze is placed in an area, with SNAPSHOT_READY (R145). -/
def placeFreeze (id : AreaId) (sender : Station) (s : State) : State :=
  let x := s.frozenArea
  raise .snapshotReady none sender (id.code + 2 * flag x.complete)
    (s.setSnapshots { (s.snapshots.setArea id x) with newer := some id })

/-- A freeze (R143 to R148). -/
def freeze (sender : Station) (s : State) : State :=
  match s.snapshots.target s.loader.params.snapshotPolicy with
  | .into id => placeFreeze id sender s
  | .overwrite id =>
    placeFreeze id sender (count .snapshotDrops 1 (raise .snapshotDropped none 0 (s.snapshots.area id).cycle.toNat s))
  | .skip => count .snapshotDrops 1 (raise .snapshotDropped none 0 s.cycle.number.toNat s)

/-! ## The lead -/

/-- The mark entry filled with the cycle number plus 1 (R70). -/
def fillMark (s : State) : State := s.setCycle { s.cycle with mark := .waiting, markNumber := s.cycle.number + 1 }

/-- The node takes the lead: detail 0 at entry by window, 1 by takeover (R69, R74). -/
def takeLead (detail : Nat) (s : State) : State :=
  fillMark (raise .leadTaken none s.own detail (s.setCycle { s.cycle with lead := true, takeover := none }))

/-- The lead is dropped on leaving MEMBER; LEAD_DROPPED with the cause only at a node that led (R73). -/
def dropLead (detail : Nat) (s : State) : State :=
  let c := s.cycle
  let s' := s.setCycle { c with lead := false, takeover := none, mark := if c.mark = .waiting then .empty else c.mark }
  if c.lead then raise .leadDropped none s.own detail s' else s'

/-- The Cycle Unit stopped: timers keep their values, sync and SYNC_HELD go, the mark entry is EMPTY (R35, R63, log 20). -/
def stopCycle (s : State) : State :=
  s.setCycle { s.cycle with synced := false, syncHeld := false, lead := false, mark := .empty, takeover := none }

/-- The Cycle Unit started from CONFIG or DETACHED (R63). -/
def startCycle (s : State) : State :=
  s.setCycle { s.cycle with
    cycleTimer := 0
    markTimer := 0
    synced := false
    lead := false
    mark := .empty
    takeover := none }

/-! ## Changes of node state -/

/-- Entry to LISTENING (R43). From CONFIG or DETACHED the receiver is switched on and the Cycle Unit started. -/
def enterListening (s : State) : State :=
  let fromOff := !s.onLine
  let s := s.setMembership { s.membership with node := .listening, markTally := 0, startTally := 0 }
  if fromOff then startCycle (receiverOn s) else s

/-- The configuration frozen at the first JOIN after a reset, and the digest computed (R174, R175). -/
def freezeConfig (s : State) : State :=
  if s.loader.frozen then s
  else s.setLoader { s.loader with frozen := true, digest := s.loader.params.digest }

/-- A JOIN taken (R42). -/
def joinLine (s : State) : State := enterListening (freezeConfig s)

/-- The JOIN triggers of entry to MEMBER, the held flags of OWN cells cleared (R98). -/
def joinTriggers (s : State) : State :=
  let s := s.setCells (s.cells.map fun r => if r.eff = .own then { r with held := false } else r)
  (s.cellsWhere (·.eff == .own)).foldl (fun t c => trigger c .join t) s

/-- Entry to MEMBER with the detail of R44 (R45, R69, R98).
DESIGN CHOICE, log 33: the presence is filled before the JOIN entries are made, so it comes before them in the arrival order (R113). -/
def enterMember (detail : Nat) (s : State) : State :=
  let s := s.setMembership { s.membership with node := .member, presenceCount := 0 }
  let s := fillPresence false (raise .joined none s.own detail s)
  let s := joinTriggers s
  if !s.loader.params.leadEligible then s
  else if detail = 1 then takeLead 0 s
  else s.setCycle { s.cycle with takeover := some 0 }

/-- Entry to LEAVING (R48, R122, R136). -/
def enterLeaving (s : State) : State :=
  let s := flushWaiting (abandonSlots (dropLead 1 s))
  let s := s.setNode .leaving
  if s.inFlightIs .presence then s else fillPresence true s

/-- The table cleared wholesale (R101). -/
def clearTable (s : State) : State := s.setCells (s.cells.map (CellRecord.cleared s.own))

/-- Entry to DETACHED: detail 0 from LISTENING, 1 from LEAVING (R49, R101, R123, R136). -/
def enterDetached (detail : Nat) (s : State) : State :=
  let s := raise .detached none 0 detail (abandonSlots (s.setNode .detached))
  let s := s.setMembership { s.membership with roster := s.membership.roster.map RosterEntry.cleared }
  stopCycle (receiverOff s) |> flushAll |> clearTable

/-- Entry to CUT_OFF (R50, R123, R136). -/
def enterCutOff (s : State) : State :=
  let s := abandonSlots (dropLead 2 (s.setNode .cutOff))
  let s := raise .cutOff none 0 s.sendQueue.entries.length s
  releaseDriver (flushAll s)

/-- Entry to HALTED: detail the kind of the frame (R52, R123, R136). -/
def enterHalted (kind : Nat) (s : State) : State :=
  let s := abandonSlots (dropLead 3 (s.setNode .halted))
  let s := raise .halted none s.own kind s
  stopCycle (receiverOff s) |> flushAll

/-- The fall to SILENT reaches the Membership Controller: MEMBER and LEAVING enter CUT_OFF (R29, R50). -/
def fallSilent (s : State) : State :=
  if s.standingUnit.standing = .silent ∧ (s.node = .member ∨ s.node = .leaving) then enterCutOff s else s

/-- Recovery: counts 0, ACTIVE with STANDING, RECOVERED; with auto-recovery the node listens at once (R31, R51). -/
def recover (s : State) : State :=
  let u := s.standingUnit
  let s := raise .standing none 0 Standing.active.code
    (s.setStandingUnit { u with sendFaults := 0, recvFaults := 0, standing := .active, quiet := 0 })
  let s := raise .recovered none 0 0 s
  if s.loader.params.autoRecovery ∧ s.node = .cutOff then enterListening s else s

/-! ## The listen window and the presence count -/

/-- The tallies of the listen window at a cycle start; `taken` says that it comes from a mark taken (R44). -/
def tally (taken : Bool) (s : State) : State :=
  let m := s.membership
  s.setMembership { m with
    startTally := min (m.startTally + 1) s.loader.params.listenWindow
    markTally := min (m.markTally + flag taken) 2 }

/-- The detail with which the tallies make the node MEMBER, if they do (R44). -/
def windowDetail (m : Membership) (window : Nat) : Option Nat :=
  if 2 ≤ m.markTally then some 0
  else if window ≤ m.startTally then some (if m.markTally = 0 then 1 else 2)
  else none

/-- The listening node judged (R44). -/
def judgeListening (s : State) : State :=
  if s.node = .listening then
    match windowDetail s.membership s.loader.params.listenWindow with
    | some d => enterMember d s
    | none => s
  else s

/-- The presence count has reached I: it becomes 0 and the presence entry is filled (R46). -/
def presenceTurn (s : State) : State :=
  if s.loader.params.presenceInterval ≤ s.membership.presenceCount then
    fillPresence false (s.setMembership { s.membership with presenceCount := 0 })
  else s

/-- The Membership Controller's presence work at a cycle start in MEMBER (R46). -/
def presenceCycle (s : State) : State :=
  if s.node = .member then
    presenceTurn (s.setMembership { s.membership with presenceCount := s.membership.presenceCount + 1 })
  else s

/-! ## The cycle start -/

/-- The Fetch Unit's work at a cycle start (R130). -/
def slotsCycle (s : State) : State :=
  (List.range Config.fetchSlots).foldl (fun t i => if (t.slot i).tryEndDue then endTry i t else t)
    (s.setSlots (s.slots.map FetchSlot.cycle))

/-- The default order of the works of a cycle start (log 7). -/
def defaultWorks : List CycleWork :=
  ((List.range Config.stations).map fun i => CycleWork.roster (BitVec.ofNat 5 (i + 1))) ++ [.cells, .slots, .presence]

/-- The works of a cycle start in the order chosen: those named, each once, then the rest in the default order (log 7). -/
def orderWorks (works : List CycleWork) : List CycleWork :=
  let named := (works.filter fun w => defaultWorks.contains w).eraseDups
  named ++ defaultWorks.filter fun w => !named.contains w

/-- One block's work at a cycle start; the sender of the mark that made it is not aged (R58). -/
def doWork (taken : Option Station) (fetchFirst : Bool) (s : State) : CycleWork → State
  | .roster st => if taken = some st then s else rosterCycle st fetchFirst s
  | .cells => cellsCycle s
  | .slots => slotsCycle s
  | .presence => presenceCycle s

/-- A cycle start, the Cycle Unit's own part done: the freeze of a marked one in MEMBER, the tallies in LISTENING, every block's work,
then, in LISTENING, the judgement of the listen window, whose own notices follow all of these. `mark` is the mark's sender at a marked
cycle start, `taken` the same where it was taken from another station (R44, R58, R91, R97, R130, R143, R144; log 5).
In LISTENING the notices raised so far reach the queue here, whatever `ties.turns` says; so a STANDING or HIGH_ERROR that the Standing Unit
raises at the end of the same frame always follows them, though R155 leaves that order open: the model's choice (log 22). -/
def cycleEffects (mark taken : Option Station) (ties : Ties) (s : State) : State :=
  let s := match mark with
    | some st => if s.node = .member then freeze st s else s
    | none => s
  let s := if s.node = .listening then tally taken.isSome s else s
  let s := (orderWorks ties.works).foldl (doWork taken ties.fetchFirst) s
  if s.node = .listening then judgeListening (deliver ties.turns s) else s

/-- The number of a marked cycle start is adopted, with CYCLE_FOUND or the slip check (R64, R65, R66). -/
def adopt (number : CycleNo) (sender : Station) (s : State) : State :=
  let c := s.cycle
  let s' := s.setCycle { c with number := number, cycleTimer := 0, markTimer := 0, synced := true }
  if !c.synced then raise .cycleFound none sender 0 s'
  else if number - c.number = 1 then s'
  else raise .cycleSlip none sender (number - c.number).toNat s'

/-- What a taken mark does to the takeover timer, the lead and the mark entry (R64, R72). -/
def meetMark (sender : Station) (s : State) : State :=
  let c := s.cycle
  if c.lead then
    if sender < s.own then
      raise .leadDropped none sender 0 (s.setCycle { c with lead := false, mark := .empty, takeover := some 0 })
    else s.setCycle { c with mark := if c.mark = .waiting then .empty else c.mark }
  else s.setCycle { c with takeover := c.takeover.map fun _ => 0 }

/-- A mark taken from another station: a marked cycle start (R64, R72). -/
def takenMark (sender : Station) (number : CycleNo) (ties : Ties) (s : State) : State :=
  cycleEffects (some sender) (some sender) ties (meetMark sender (adopt number sender s))

/-- The node's own mark, SENT or LONE: a marked cycle start (R65). -/
def ownMark (number : CycleNo) (ties : Ties) (s : State) : State :=
  cycleEffects (some s.own) none ties (adopt number s.own (emptyMark s))

/-- A local cycle start: the number increases, the cycle timer restarts, a WAITING mark of the lead is renumbered, and an EMPTY one is
filled, for the cycle timer has reached P (R67, R70, log 18). -/
def localCycle (ties : Ties) (s : State) : State :=
  let c := s.cycle
  let number := c.number + 1
  let s := s.setCycle { c with
    number := number
    cycleTimer := 0
    mark := if c.lead ∧ c.mark = .empty then .waiting else c.mark
    markNumber := if c.lead ∧ c.mark ≠ .inFlight then number + 1 else c.markNumber }
  cycleEffects none none ties s

/-! ## Time (log 3, log 4) -/

/-- Time passes at the line. Where dominant symbols come each as it is seen and two symbol times have passed since the last symbol counted, the
one between was recessive, which sets the run of dominant symbols to 0 (R19, log 32). -/
def passSymbols (units : Nat) (s : State) : State :=
  let elapsed := s.line.elapsed + units
  s.setLine { s.line with
    elapsed := elapsed
    dominantRun := if s.line.outside && decide (s.loader.params.symbolUnits 2 ≤ elapsed) then 0 else s.line.dominantRun }

/-- Time passes: the running timers of the Cycle Unit advance, a veto goes on, and so do the over-run check and the count of dominant symbols
(R14, R19, R20, R62, R63). -/
def advance (units : Nat) (s : State) : State :=
  if s.onLine then
    (passVeto units (passSymbols units s)).setCycle { s.cycle with
      cycleTimer := s.cycle.cycleTimer + units
      markTimer := s.cycle.markTimer + units
      takeover := s.cycle.takeover.map (· + units) }
  else s

/-- Does the node run the takeover timer as R74 says? -/
def State.mayTakeOver (s : State) : Bool :=
  s.node == .member && s.loader.params.leadEligible && !s.cycle.lead && s.standingUnit.standing != .silent

/-- The cycle timer reaches P at an UNSYNCED node (R67). -/
def localCycleStart (ties : Ties) (s : State) : State :=
  if s.onLine ∧ !s.cycle.synced then localCycle ties (advance (s.loader.params.periodUnits - s.cycle.cycleTimer) s) else s

/-- The cycle timer reaches P at a lead whose mark entry is EMPTY (R70). -/
def markFill (s : State) : State :=
  if s.onLine ∧ s.cycle.lead ∧ s.cycle.mark = .empty then
    fillMark (advance (s.loader.params.periodUnits - s.cycle.cycleTimer) s)
  else s

/-- The mark timer reaches 3 × P at a SYNCED node: sync is lost, CYCLE_LOST is posted under the old number, and a local cycle start
follows at once (R68, R154). -/
def lossOfSync (ties : Ties) (s : State) : State :=
  if s.onLine ∧ s.cycle.synced then
    let s := advance (3 * s.loader.params.periodUnits - s.cycle.markTimer) s
    let s := raise .cycleLost none 0 0 (s.setCycle { s.cycle with synced := false, syncHeld := false })
    localCycle ties (deliver ties.turns s)
  else s

/-- The takeover timer expires (R74). -/
def takeOver (s : State) : State :=
  match s.cycle.takeover with
  | some t => if s.mayTakeOver then takeLead 1 (advance (s.loader.params.takeoverUnits - t) s) else s
  | none => s

/-- Is a timer at its limit? -/
def timerDue (timer : Option Nat) (limit : Nat) : Bool :=
  match timer with
  | some t => decide (limit ≤ t)
  | none => false

end Sys2Proof.Machine
end

