-- ==== Sys2Proof/Machine/Sending.lean ====
section
/-! DEFINITION. The node's own frames: the choice and the image, the start, the five outcomes, the over-run, and the end of a suspension
(R10 to R12, R16 to R18, R20, R30, R46, R48, R65, R71, R111 to R123). -/

namespace Sys2Proof.Machine

/-! ## The candidate and its image (R111 to R114) -/

/-- A queue entry as a candidate (R112). -/
def State.entryCandidate (s : State) (e : Entry) : Candidate :=
  ⟨.entry e.cell, match e.kind with
    | .publication => (s.cell e.cell).cfg.cls.toNat
    | .fetch => 2, e.cell.toNat, e.arrival⟩

/-- The presence entry as a candidate, when it is filled and not in flight (R111, R112). -/
def State.presenceCandidates (s : State) : List Candidate :=
  if s.membership.presence.filled ∧ !s.inFlightIs .presence then [⟨.presence, 3, 0, s.membership.presence.place⟩] else []

/-- The candidates beside the mark: in MEMBER the presence and every waiting queue entry; in LEAVING the leaving presence alone (R111). -/
def State.candidates (s : State) : List Candidate :=
  match s.node with
  | .member => s.presenceCandidates ++ (s.sendQueue.entries.filter fun e => !s.sendQueue.flies e.cell).map s.entryCandidate
  | .leaving => if s.membership.presence.leaving then s.presenceCandidates else []
  | .loading | .config | .listening | .cutOff | .detached | .halted => []

/-- What the Send Queue offers: the mark whenever it waits, else the choice by the send order (R111 to R113). -/
def State.offer (s : State) : Option Target :=
  if s.node = .member ∧ s.cycle.mark = .waiting then some .mark
  else (choose s.loader.params.sendOrder s.candidates).map Candidate.target

/-- The image of a queue entry (R114). -/
def State.entryImage (s : State) (c : CellNo) : Frame :=
  let r := s.cell c
  match s.sendQueue.entries.find? (·.cell == c) with
  | some e =>
    match e.kind with
    | .publication => ⟨r.cfg.cls, c, s.own, .publication r.version (s.cycle.number.setWidth 8) r.value⟩
    | .fetch => ⟨2, c, s.own, .fetch⟩
  | none => ⟨2, c, s.own, .fetch⟩

/-- The frame image of a target, from the state at the frame start (R114). -/
def State.image (s : State) : Target → Frame
  | .mark => ⟨0, 0, s.own, .mark s.cycle.markNumber⟩
  | .presence => ⟨3, 0, s.own, .presence s.loader.digest (s.standingUnit.standing == .guarded) s.membership.presence.leaving
      s.loader.params.leadEligible s.cycle.lead⟩
  | .entry c => s.entryImage c

/-! ## The start (R10) -/

/-- The node states in which frames are started (R2). -/
def NodeState.starts : NodeState → Bool
  | .member | .leaving => true
  | .loading | .config | .listening | .cutOff | .detached | .halted => false

/-- May the node start a frame at this boundary? (R2, R10, R18) -/
def State.mayStart (s : State) : Bool :=
  s.line.lineState == .idle && s.line.track == .none && s.sendQueue.inFlight.isNone && s.node.starts
    && s.standingUnit.standing != .silent && !(s.line.suspension && s.standingUnit.standing == .guarded)

/-- The start symbol is driven: the image is formed, the entry is in flight, and the over-run check begins. Whether the transmit path will stop
within the frame is a free value (R3, R10, R18, R20, R114; log 35). -/
def startFrame (t : Target) (s : State) : State :=
  let image := s.image t
  let s := s.setLine { s.line with
    lineState := .busy
    track := .sending
    driver := .frame
    vetoDue := none
    idleRun := 0
    dominantRun := 1
    suspension := false
    tx := image.stream
    elapsed := 0
    stall := Config.transmitStall s.draws }
  let s := (s.setSendQueue { s.sendQueue with inFlight := some ⟨t, image⟩ }).setDraws (s.draws + 1)
  if t = .mark then s.setCycle { s.cycle with mark := .inFlight } else s

/-- FRAME_START (R10). -/
def execFrameStart (s : State) : Result :=
  event [] (fun s => if s.mayStart then (match s.offer with
    | some t => startFrame t s
    | none => s) else s) s

/-! ## Outcomes, by the owner of the frame (R46, R48, R71, R115 to R121) -/

/-- The mark's outcome at the Cycle Unit (R65, R71). -/
def markOutcome (o : OutcomeKind) (image : Frame) (ties : Ties) (s : State) : State :=
  match o, image.body with
  | .sent, .mark n | .lone, .mark n => ownMark n ties s
  | _, _ => s.setCycle { s.cycle with mark := if s.cycle.lead then .waiting else .empty }

/-- A failed attempt of the presence: the attempts, and whether they have reached the retry limit plus 1 (R46, R48). -/
def presenceRetry (s : State) : State :=
  let p := s.membership.presence
  if s.loader.params.retryLimit + 1 ≤ p.attempts + 1 then emptyPresence s
  else s.setMembership { s.membership with presence := { p with attempts := p.attempts + 1 } }

/-- The presence entry after an outcome: SENT and LONE empty it, LOST leaves it, CLASH and VETOED count an attempt (R46, R48). -/
def presenceEntryAfter (o : OutcomeKind) (s : State) : State :=
  match o with
  | .sent | .lone => emptyPresence s
  | .lost => s
  | .clash | .vetoed => presenceRetry s

/-- The presence's outcome at the Membership Controller. In LEAVING a periodic presence is followed by the leaving presence, and the end
of the leaving presence enters DETACHED, unless the standing is SILENT (R46, R48, R61). -/
def presenceOutcome (o : OutcomeKind) (s : State) : State :=
  if s.node ≠ .leaving then presenceEntryAfter o s
  else if !s.membership.presence.leaving then fillPresence true (emptyPresence s)
  else
    let s := presenceEntryAfter o s
    if o ≠ .lost ∧ !s.membership.presence.filled ∧ s.standingUnit.standing ≠ .silent then enterDetached 1 s else s

/-- The changed flag of a cell cleared (R117). -/
def clearChangedOf (c : CellNo) (s : State) : State := s.setCell c { s.cell c with changed := false }

/-- The end of a PUBLICATION at SENT: it leaves, the gap begins, the place is refilled, and a change during the flight is raised
(R116, R117, log 26). -/
def publicationSent (c : CellNo) (sent : Version) (s : State) : State :=
  let r := s.cell c
  let onChange := r.cfg.policy == .onChange
  let followUp := r.changed && onChange && s.node == .member && r.version != sent
  let s := s.setCell c { r with changed := false, gapCount := if onChange then r.cfg.gap else r.gapCount }
  let s := refill (s.setSendQueue (s.sendQueue.drop c))
  if followUp then raiseChange c s else s

/-- The end of a FETCH request, sent or given up: it leaves, the slot awaits the answer, the place is refilled (R116, R119, R129). -/
def fetchEnded (c : CellNo) (s : State) : State := refill (slotAwaits c (s.setSendQueue (s.sendQueue.drop c)))

/-- An entry with cancel-requested set leaves at an outcome other than SENT, with SEND_CANCELLED (R121, R125). -/
def entryCancelled (e : Entry) (o : OutcomeKind) (s : State) : State :=
  let s := raise .sendCancelled (some e.cell) 0 (8 * e.reason.code + o.code) (s.setSendQueue (s.sendQueue.drop e.cell))
  refill (if e.kind = .fetch then slotCancelled e.cell s else s)

/-- A failed attempt of an entry: retried, or given up at the retry limit with SEND_FAILED (R119, R125, R129). -/
def entryRetry (e : Entry) (o : OutcomeKind) (s : State) : State :=
  if s.loader.params.retryLimit + 1 ≤ e.attempts + 1 then
    let s := raise .sendFailed (some e.cell) 0 (8 * e.reason.code + o.code) (s.setSendQueue (s.sendQueue.drop e.cell))
    refill (if e.kind = .fetch then slotAwaits e.cell s else s)
  else s.setSendQueue (s.sendQueue.update e.cell fun e => { e with attempts := e.attempts + 1 })

/-- The version a publication's image carries (R114). -/
def sentVersion (f : Frame) : Version :=
  match f.body with
  | .publication v _ _ => v
  | .mark _ | .presence _ _ _ _ _ | .fetch => 0

/-- A queue entry's outcome other than SENT (R117 to R119, R121, R122). -/
def entryNotSent (e : Entry) (o : OutcomeKind) (s : State) : State :=
  let s := if e.kind = .publication then clearChangedOf e.cell s else s
  if e.cancelRequested then entryCancelled e o s
  else if s.node = .leaving then s.setSendQueue (s.sendQueue.drop e.cell)
  else if o = .lost then s
  else if o = .lone ∧ e.kind = .fetch then fetchEnded e.cell s
  else entryRetry e o s

/-- A queue entry's outcome (R115 to R121). -/
def entryOutcome (c : CellNo) (image : Frame) (o : OutcomeKind) (s : State) : State :=
  match s.sendQueue.entries.find? (·.cell == c) with
  | none => s
  | some e =>
    if o = .sent then (if e.kind = .publication then publicationSent c (sentVersion image) s else fetchEnded c s)
    else entryNotSent e o s

/-- The outcome of the frame in the in-flight slot: the slot is emptied and the owner handles it; an outcome for an empty slot changes
nothing (R61, R115). -/
def handleOutcome (o : OutcomeKind) (ties : Ties) (s : State) : State :=
  match s.sendQueue.inFlight with
  | none => s
  | some f =>
    let s := s.setSendQueue { s.sendQueue with inFlight := none }
    match f.target with
    | .mark => markOutcome o f.image ties s
    | .presence => presenceOutcome o s
    | .entry c => entryOutcome c f.image o s

/-! ## Outcomes at the Line Interface (R11, R12, R16 to R18, R20 to R22) -/

/-- Is the node sending a frame of its own whose outcome this can be? -/
def State.awaits (s : State) (view : LineView) (o : OutcomeKind) : Bool :=
  s.line.track == .sending && s.node.starts && view.gives s.line.tx o

/-- A suspension becomes pending (R18). -/
def suspend (s : State) : State := s.setLine { s.line with suspension := true }

/-- OUTCOME_LOST: contention lost; the node goes on as a receiver (R11, R118). -/
def outcomeLost (dominantRun : Nat) (s : State) : State :=
  let s := count .lostContentions 1
    (s.setLine { s.line with track := .receiving, driver := .released, dominantRun := dominantRun, tx := [] })
  standOutcome .lost (handleOutcome .lost Ties.default s)

/-- OUTCOME_LOST (R11). -/
def execOutcomeLost (view : LineView) (s : State) : Result :=
  event [] (fun s => if s.awaits view .lost then outcomeLost view.dominantRun s else s) s

/-- The Send Queue's outcome and the fall to SILENT at one symbol, in the order chosen (R115, R123). -/
def outcomeAndFall (o : OutcomeKind) (ties : Ties) (s : State) : State :=
  if ties.flushFirst then handleOutcome o ties (fallSilent s) else fallSilent (handleOutcome o ties s)

/-- OUTCOME_CLASH: the fault is counted, at an ACTIVE node a veto is due at the next symbol, the frame ends for the node (R12, R18, R21,
R24, R28). A node that this outcome takes off the line starts no veto (R2). -/
def outcomeClash (dominantRun : Nat) (ties : Ties) (s : State) : State :=
  outcomeAndFall .clash ties (dueVeto 1 (standOutcome .clash (count .sendFaults 1 (suspend (endFrame dominantRun s)))))

/-- OUTCOME_CLASH (R12). -/
def execOutcomeClash (view : LineView) (ties : Ties) (s : State) : Result :=
  event ties.turns (fun s => if s.awaits view .clash then outcomeClash view.dominantRun ties s else s) s

/-- OUTCOME_VETOED (R17, R18, R21, R24). -/
def outcomeVetoed (dominantRun : Nat) (ties : Ties) (s : State) : State :=
  outcomeAndFall .vetoed ties (standOutcome .vetoed (count .sendFaults 1 (suspend (endFrame dominantRun s))))

/-- OUTCOME_VETOED (R17). -/
def execOutcomeVetoed (view : LineView) (ties : Ties) (s : State) : Result :=
  event ties.turns (fun s => if s.awaits view .vetoed then outcomeVetoed view.dominantRun ties s else s) s

/-- OUTCOME_LONE: no node acknowledged; the end field is still tracked (R16, R18, R21, R24; log 24). -/
def outcomeLone (ties : Ties) (s : State) : State :=
  let s := suspend (s.setLine { s.line with track := .trailing, driver := .released, dominantRun := 0, tx := [], elapsed := 0 })
  standOutcome .lone (handleOutcome .lone ties (count .loneSends 1 s))

/-- OUTCOME_LONE (R16). -/
def execOutcomeLone (view : LineView) (ties : Ties) (s : State) : Result :=
  event ties.turns (fun s => if s.awaits view .lone then outcomeLone ties s else s) s

/-- OUTCOME_SENT (R17, R18, R21, R24; log 24). -/
def outcomeSent (ties : Ties) (s : State) : State :=
  standOutcome .sent (handleOutcome .sent ties (count .sentFrames 1 (suspend (endFrame 0 s))))

/-- OUTCOME_SENT (R17). -/
def execOutcomeSent (view : LineView) (ties : Ties) (s : State) : Result :=
  event ties.turns (fun s => if s.awaits view .sent then outcomeSent ties s else s) s

/-- The Standing Unit's part of a driver over-run: the send fault count becomes 240 and the standing SILENT (R30). -/
def standTimeout (s : State) : State :=
  let u := s.standingUnit
  let s := raise .driverTimeout none 0 u.sendFaults s
  if u.sendFaults < 240 then refit (s.setStandingUnit { u with sendFaults := 240 }) else refit s

/-- DRIVER_TIMEOUT: the driver is released, the over-run counts as a send fault, and the Send Queue is told CLASH (R18, R20, R21, R30). A run
of dominant symbols that has reached 64 by then has made the line STUCK (R19). -/
def driverTimeout (report : Overrun) (s : State) : State :=
  let run := min report.view.dominantRun Config.stuckRun
  let s := if run = Config.stuckRun ∧ s.line.lineState ≠ .stuck then stick s else s
  outcomeAndFall .clash report.ties (standTimeout (count .sendFaults 1 (suspend (endFrame run s))))

/-! ## The over-run check (R20) -/

/-- The place of the guard symbol in the frame being sent, the start symbol at place 0 (R7, R20). -/
def LineInterface.guardPlace (l : LineInterface) : Nat := l.tx.findIdx (·.part == .guard)

/-- Does the transmit path stop before the guard symbol? (R20, log 35) -/
def LineInterface.stopsShort (l : LineInterface) : Bool :=
  match l.stall with
  | some k => decide (k < l.guardPlace)
  | none => false

/-- The time in which a frame must have reached its guard symbol (R20). -/
def State.overrunUnits (s : State) : Nat := s.loader.params.symbolUnits Config.overrunSymbols

/-- How many symbol times have passed since the start symbol of the frame being sent (R20). -/
def State.symbolsPassed (s : State) : Nat := s.line.elapsed / s.loader.params.symbolUnits 1

/-- Has the sender reached the guard symbol of its frame? (R20) -/
def State.guardReached (s : State) : Bool := decide (s.line.guardPlace ≤ s.symbolsPassed) && !s.line.stopsShort

/-- Does the over-run check still watch a frame: is it being sent, its guard symbol not reached? (R20) -/
def State.watched (s : State) : Bool := s.line.track == .sending && s.node.starts && !s.guardReached

/-- Has a frame been sent for 240 symbol times without reaching its guard symbol? (R20) -/
def State.overrunDue (s : State) : Bool := decide (s.overrunUnits ≤ s.line.elapsed) && s.watched

/-- The levels that the node has sent since the start symbol; a transmit path that has stopped holds its last level (R20, log 35). -/
def State.sentLevels (s : State) : List Level :=
  (List.range (s.symbolsPassed + 1)).map fun i => (s.line.tx.getD (min i (s.line.stall.getD i)) ⟨true, .endField⟩).level

/-- Has a transmit path that has stopped at a dominant symbol held the line dominant for 64 symbols? (R19, R20, log 35) -/
def State.stallSticks (s : State) : Bool :=
  s.line.track == .sending && s.line.lineState == .busy && decide (Config.stuckRun ≤ s.symbolsPassed + 1)
    && s.line.stopsShort && decide (Config.stuckRun ≤ dominantRunOf s.sentLevels)

/-- DRIVER_TIMEOUT: the time that is missing until the 240th symbol time passes, and the frame is still short of its guard symbol (R20; logs 4
and 35). -/
def execDriverTimeout (report : Overrun) (s : State) : Result :=
  event report.ties.turns (fun s =>
    if s.watched then driverTimeout report (advance (s.overrunUnits - s.line.elapsed) s) else s) s

/-! ## The end of a suspension (R18) -/

/-- SUSPENSION_END: the idle run reaches 18 while a suspension is pending (R18). -/
def execSuspensionEnd (s : State) : Result :=
  event [] (fun s =>
    if s.onLine ∧ s.line.suspension ∧ s.line.track = .none ∧ 10 ≤ s.line.idleRun ∧ s.line.idleRun < 18 then
      s.setLine { s.line with suspension := false, idleRun := 18 }
    else s) s

end Sys2Proof.Machine
end

