-- ==== Sys2Proof/Machine/Events.lean ====
section
/-! DEFINITION. The node's own events: the Standing Unit's, the Membership Controller's, the Cycle Unit's timers, the Cell Engine's and
the Fetch Unit's; and the passing of time. An event that a count makes due acts in a state in which it is due (log 5). -/

namespace Sys2Proof.Machine

/-! ## Standing (R31, R33) -/

/-- RECOVERY: the quiet-interval count of a SILENT node stands at 96 (R31). -/
def execRecovery (ties : Ties) (s : State) : Result :=
  event ties.turns (fun s =>
    if s.onLine ∧ s.standingUnit.standing = .silent ∧ 96 ≤ s.standingUnit.quiet then recover s else s) s

/-- WINDOW_CLOSE: the observation tally stands at 32 (R33). -/
def execWindowClose (s : State) : Result :=
  event [] (fun s => if s.onLine ∧ windowLength ≤ s.standingUnit.observations then judgeWindow s else s) s

/-! ## Membership (R44, R46, R58) -/

/-- SILENCE_DEPARTURE: the silence count of a station heard stands above 3 × I (R58, R59). -/
def execSilenceDeparture (station : Station) (ties : Ties) (s : State) : Result :=
  event ties.turns (fun s =>
    if s.onLine && (s.entry station).departureDue s.loader.params.presenceInterval then depart station 0 ties.fetchFirst s else s) s

/-- LISTEN_WINDOW_END: the tallies of a listening node have reached their end (R44). -/
def execListenWindowEnd (ties : Ties) (s : State) : Result := event ties.turns judgeListening s

/-- PRESENCE_FILL: the presence count of a member stands at I (R46). -/
def execPresenceFill (s : State) : Result := event [] (fun s => if s.node = .member then presenceTurn s else s) s

/-! ## The Cycle Unit's timers (R67, R68, R70, R74) -/

/-- LOCAL_CYCLE_START (R67). -/
def execLocalCycleStart (ties : Ties) (s : State) : Result := event ties.turns (localCycleStart ties) s

/-- MARK_FILL (R70). -/
def execMarkFill (s : State) : Result := event [] markFill s

/-- LOSS_OF_SYNC (R68). -/
def execLossOfSync (ties : Ties) (s : State) : Result := event ties.turns (lossOfSync ties) s

/-- TAKEOVER (R74). -/
def execTakeover (s : State) : Result := event [] takeOver s

/-! ## The Cell Engine (R91, R92, R93, R96) -/

/-- CELL_STALE: a FRESH replica's age stands above E (R91). -/
def execCellStale (c : CellNo) (s : State) : Result :=
  event [] (fun s => if s.onLine && (s.cell c).staleDue then makeStale c s else s) s

/-- CELL_LOST: the age of a STALE FOLLOW replica stands above four times E (R92). -/
def execCellLost (c : CellNo) (s : State) : Result :=
  event [] (fun s => if s.onLine && (s.cell c).lostDue && (s.cell c).eff == .follow then makeLost 0 c s else s) s

/-- CLAIM_REGAINED: the age of a YIELDED cell's STALE replica stands above four times E (R93). -/
def execClaimRegained (c : CellNo) (ties : Ties) (s : State) : Result :=
  event ties.turns (fun s => if s.onLine && (s.cell c).lostDue && (s.cell c).eff == .yielded then regain 0 c s else s) s

/-- GAP_END: the gap count of a cell stands at 0 with the held flag set (R96). -/
def execGapEnd (c : CellNo) (s : State) : Result :=
  event [] (fun s => if s.onLine && (s.cell c).gapEndDue then endGap c s else s) s

/-! ## The Fetch Unit (R130) -/

/-- FETCH_TRY_END: the timer of an AWAITING slot stands at 0 (R130). -/
def execFetchTryEnd (slot : Fin 4) (s : State) : Result :=
  event [] (fun s => if s.onLine && (s.slot slot.val).tryEndDue then endTry slot.val s else s) s

/-! ## A step with no command (log 3) -/

/-- One unit of time on an empty queue, and the events that it makes due: a line stuck and a frame over-run by a transmit path that has stopped,
then the timers of the Cycle Unit (R19, R20; logs 3 and 35). -/
def tick (s : State) : State :=
  if s.inReset ∨ !s.onLine then s
  else
    let s := advance 1 s
    let s := if s.stallSticks then stick s else s
    let s := if s.overrunDue then driverTimeout ⟨.seen s.sentLevels, Ties.default⟩ s else s
    let s := if s.cycle.synced && timerDue (some s.cycle.markTimer) (3 * s.loader.params.periodUnits)
      then lossOfSync Ties.default s else s
    let s := if !s.cycle.synced && timerDue (some s.cycle.cycleTimer) s.loader.params.periodUnits
      then localCycleStart Ties.default s else s
    let s := if timerDue (some s.cycle.cycleTimer) s.loader.params.periodUnits then markFill s else s
    let s := if timerDue s.cycle.takeover s.loader.params.takeoverUnits then takeOver s else s
    deliver [] s

end Sys2Proof.Machine
end

