-- ==== Sys2Proof/Machine/Receiving.lean ====
section
/-! DEFINITION. Reception and the runs of the line: frames taken, faults, vetoes by others, start symbols, quiet intervals, the stuck line;
admission, the Roster's part, and the taking of publications, marks and fetch requests (R3, R4, R13 to R15, R19, R52, R55 to R60, R64,
R84 to R90, R133, R134). -/

namespace Sys2Proof.Machine

/-! ## The Roster's part (R55 to R57) -/

/-- The reported fields of a presence (R54, R55, R56). -/
def RosterEntry.report (e : RosterEntry) (digest : BitVec 16) (guarded eligible lead : Bool) : RosterEntry :=
  { e with digest := digest, standing := if guarded then .guarded else .active, eligible := eligible, lead := lead }

/-- A leaving presence taken: the departure of a station heard (R55, R59). -/
def leavingTaken (st : Station) (fetchFirst : Bool) (s : State) : State :=
  if (s.entry st).heard then depart st 1 fetchFirst s else s

/-- A presence taken: its sender is PRESENT or FOREIGN by its digest, with a notice for a change (R56). -/
def presenceTaken (st : Station) (before : RosterState) (digest : BitVec 16) (s : State) : State :=
  let e := s.entry st
  if digest = s.loader.digest then
    let s := s.setEntry st { e with state := .present }
    if before = .present then s else raise .stationPresent none st (flag (before == .foreign)) s
  else
    let s := s.setEntry st { e with state := .foreign }
    if before = .foreign then s else raise .stationForeign none st (flag (before == .present)) s

/-- Is this the last cycle of a station PRESENT: does the next aging make it ABSENT? (R58) -/
def RosterEntry.lastCycle (interval : Nat) (e : RosterEntry) : Bool := e.state == .present && e.silence == 3 * interval

/-- The Roster entry of a frame's sender updated (R55, R56, R57). R58 and R100 differ on a publication that is taken first at the moment of
the local cycle start that makes its sender ABSENT: by R58 its silence is 0 and no departure follows, by R100 the departure follows.
`Ties.departureStands` chooses, which is the model's own way out (log 13). -/
def updateRoster (f : Frame) (ties : Ties) (s : State) : State :=
  let e := s.entry f.station
  match f.body with
  | .presence digest guarded leaving eligible lead =>
    if leaving then
      leavingTaken f.station ties.fetchFirst (s.setEntry f.station (e.report digest guarded eligible lead))
    else
      presenceTaken f.station e.state digest
        (s.setEntry f.station { e.report digest guarded eligible lead with silence := 0 })
  | .publication _ _ _ =>
    if e.heard && !(ties.departureStands && e.lastCycle s.loader.params.presenceInterval) then
      s.setEntry f.station { e with silence := 0 }
    else s
  | .mark _ | .fetch => if e.heard then s.setEntry f.station { e with silence := 0 } else s

/-! ## Taking a publication (R84 to R90) -/

/-- The tag check of a publication taken (R90). -/
def checkTag (tag : BitVec 8) (s : State) : State :=
  if s.cycle.synced && !tagAgrees tag s.cycle.number then count .tagSkews 1 s else s

/-- The record after a take: value, version, owner, age, freshness, take cycle (R89). -/
def CellRecord.taken (r : CellRecord) (owner : Station) (v : Version) (data : List Byte) (number : CycleNo) : CellRecord :=
  { r with owner := owner, value := data, version := v, age := 0, freshness := .fresh, takeCycle := number }

/-- The record after a refresh (R88, R89). -/
def CellRecord.refreshed (r : CellRecord) : CellRecord := { r with age := 0, freshness := .fresh }

/-- What follows every take or refresh of a replica: CELL_FRESH, the tag check, and for a FOLLOW cell the news to the Fetch Unit
(R89, R90, R131). -/
def afterTake (c : CellNo) (st : Station) (tag : BitVec 8) (before : CellRecord) (s : State) : State :=
  let s := if before.freshness = .stale ∨ before.freshness = .lost then
      raise .cellFresh (some c) st before.freshness.code s
    else s
  let s := checkTag tag s
  if before.eff = .follow then completeFetch c st s else s

/-- A claim clash won: the publication is discarded, a CLASH trigger is raised (R85). -/
def winClaim (c : CellNo) (st : Station) (s : State) : State :=
  trigger c .clash (raise .claimClash (some c) st 0 (count .ownerClashes 1 s))

/-- The record of a cell that yields (R86). -/
def CellRecord.yields (r : CellRecord) (st : Station) (v : Version) (data : List Byte) (number : CycleNo) : CellRecord :=
  { r.taken st v data number with eff := .yielded, changed := false, held := false, gapCount := 0 }

/-- A claim clash lost: the cell yields, its deferred place and its entry go, and the freed place is refilled (R86, R109). -/
def yieldClaim (c : CellNo) (st : Station) (v : Version) (tag : BitVec 8) (data : List Byte) (s : State) : State :=
  let s := s.setCell c ((s.cell c).yields st v data s.cycle.number)
  let s := removeWaiting c (s.setSendQueue (s.sendQueue.undefer c))
  checkTag tag (raise .claimLost (some c) st 0 s)

/-- Accepted with owner change (R87, R89). -/
def takeFromNewOwner (c : CellNo) (st : Station) (v : Version) (tag : BitVec 8) (data : List Byte) (s : State) : State :=
  let r := s.cell c
  let s := s.setCell c (r.taken st v data s.cycle.number)
  let s := if r.owner ≠ 0 ∧ r.owner ≠ st then raise .ownerChanged (some c) st r.owner.toNat s else s
  afterTake c st tag r s

/-- Judged by the version rule (R88). -/
def takeByVersion (c : CellNo) (st : Station) (v : Version) (tag : BitVec 8) (data : List Byte) (s : State) : State :=
  let r := s.cell c
  let d := versionDistance r.version v
  if 128 ≤ d then count .staleCopies 1 s
  else if d = 0 ∧ data = r.value then afterTake c st tag r (s.setCell c r.refreshed)
  else
    let s := s.setCell c (r.taken st v data s.cycle.number)
    let s := if d = 0 then raise .versionClash (some c) st v.toNat s else count .missedVersions (d - 1) s
    afterTake c st tag r s

/-- A publication of a FOLLOW or YIELDED cell judged by its sender (R87). -/
def takeReplica (c : CellNo) (st : Station) (v : Version) (tag : BitVec 8) (data : List Byte) (s : State) : State :=
  let r := s.cell c
  if r.owner = 0 ∨ r.freshness = .never ∨ r.freshness = .lost ∨ st < r.owner then takeFromNewOwner c st v tag data s
  else if st = r.owner then takeByVersion c st v tag data s
  else count .ownerClashes 1 s

/-- An admitted publication at the Cell Engine (R84 to R90). -/
def takePublication (c : CellNo) (st : Station) (v : Version) (tag : BitVec 8) (data : List Byte) (s : State) : State :=
  let r := s.cell c
  if r.eff = .unused then s
  else if data.length ≠ r.cfg.length then raise .lengthClash (some c) st data.length s
  else if r.eff = .own then
    if s.own < st then winClaim c st s else yieldClaim c st v tag data s
  else takeReplica c st v tag data s

/-! ## Taking a fetch request (R133, R134) -/

/-- A slot of this node that holds the cell in REQUESTING is suppressed by a peer's request (R133). -/
def suppress (c : CellNo) (s : State) : State :=
  match s.slotHolding c with
  | some i => if (s.slot i).state = .requesting then removeWaiting c (slotAwaits c s) else s
  | none => s

/-- An admitted fetch request: suppression, and the answer of an owner in MEMBER (R133, R134). -/
def takeFetch (c : CellNo) (s : State) : State :=
  let s := suppress c s
  if (s.cell c).eff = .own then trigger c .answer s else s

/-! ## Admission (R52, R60) -/

/-- The frame passed on by its kind and its sender's state (R60). -/
def passOn (f : Frame) (ties : Ties) (s : State) : State :=
  let state := (s.entry f.station).state
  match f.body with
  | .presence _ _ _ _ _ => s
  | .mark n => if state = .foreign then s else takenMark f.station n ties s
  | .publication v tag data => if state = .present then takePublication f.subject f.station v tag data s else s
  | .fetch => if state = .present then takeFetch f.subject s else s

/-- A frame taken at the Membership Controller: a duplicate station halts the node; else the Roster is updated and the frame passed on
(R52, R60). -/
def admitFrame (f : Frame) (ties : Ties) (s : State) : State :=
  if f.station = s.own then enterHalted f.body.kind.toNat s else passOn f ties (updateRoster f ties s)

/-! ## The events -/

/-- Is the node receiving a frame? (R3) -/
def State.receives (s : State) : Bool := s.onLine && s.line.track == .receiving

/-- Whether the node drove the acknowledge symbol of the frame it received whole (R2, R15). -/
def acknowledge (s : State) : State := s.setLine { s.line with acked := s.mayDrive }

/-- A frame received passes its end field clean (R15, R21, R25, R60; log 24). -/
def takeFrame (f : Frame) (ties : Ties) (s : State) : State :=
  standTake (admitFrame f ties (count .takenFrames 1 (endFrame 0 (acknowledge s))))

/-- FRAME_TAKEN (R15). -/
def execFrameTaken (view : FrameView) (ties : Ties) (s : State) : Result :=
  event ties.turns (fun s => if s.receives then (match view.frame? with
    | some f => takeFrame f ties s
    | none => s) else s) s

/-- A receive fault: counted, the frame discarded, and at an ACTIVE node a veto is due, after a check error at the acknowledge symbol
(R13, R14, R21, R25, R28). -/
def faultFound (kind : FaultKind) (dominantRun : Nat) (s : State) : State :=
  dueVeto (vetoDelay kind) (standFault (count .receiveFaults 1 (endFrame dominantRun s)))

/-- RECEIVE_FAULT (R13). -/
def execReceiveFault (view : FaultView) (ties : Ties) (s : State) : Result :=
  event ties.turns (fun s => if s.receives then (match view.kind? with
    | some kind => faultFound kind view.dominantRun s
    | none => s) else s) s

/-- FRAME_DISCARDED: another node vetoed a frame received whole; no fault, nothing delivered (R15). -/
def execFrameDiscarded (view : LineView) (s : State) : Result :=
  event [] (fun s => if s.receives && view.discards then endFrame view.dominantRun (acknowledge s) else s) s

/-- The line STUCK by 64 consecutive dominant symbols, none of them in a veto of this node, which is therefore over (R19, R34; log 11). -/
def lineSticks (s : State) : State := stick (finishVeto s)

/-- The run of dominant symbols with one more; while the node itself drives a veto it is held at 0 (R19). -/
def State.dominantNext (s : State) : Nat :=
  match s.line.driver with
  | .veto _ => 0
  | .released | .frame => s.line.dominantRun + 1

/-- A dominant symbol. On an IDLE line it is another node's start symbol, tracked as a frame received, and ends a suspension. On a BUSY or STUCK
line outside the fields of a frame it is counted and sets the idle run to 0, and the 64th in a row makes a BUSY line STUCK (R3, R18, R19). The
symbols of a frame come with the event that ends it (log 9).
DESIGN CHOICE, log 32: START_SYMBOL stands for these dominant symbols, for no row of their own reports them; and on a STUCK line the count rests
at 64. -/
def dominantSeen (s : State) : State :=
  match s.line.lineState with
  | .idle =>
    s.setLine { s.line with
      lineState := .busy
      track := .receiving
      driver := .released
      vetoDue := none
      idleRun := 0
      dominantRun := 1
      suspension := false
      elapsed := 0 }
  | .busy =>
    if !s.line.outside then s
    else if Config.stuckRun ≤ s.dominantNext then lineSticks s
    else s.setLine { s.line with idleRun := 0, dominantRun := s.dominantNext, elapsed := 0 }
  | .stuck =>
    if !s.line.outside then s
    else s.setLine { s.line with idleRun := 0, dominantRun := min s.dominantNext Config.stuckRun, elapsed := 0 }

/-- START_SYMBOL (R3, R10, R18, R19). -/
def execStartSymbol (s : State) : Result := event [] (fun s => if s.onLine then dominantSeen s else s) s

/-- The line after ten further recessive symbols outside a frame: IDLE, an episode ended with LINE_STUCK CLEAR, a suspension over at 18
(R3, R4, R18, R19). -/
def lineQuiet (s : State) : State :=
  let was := s.line.lineState
  let run := 10 * (s.line.idleRun / 10 + 1)
  let s := s.setLine { s.line with
    lineState := .idle
    track := .none
    driver := .released
    idleRun := run
    dominantRun := 0
    suspension := s.line.suspension && decide (run < 18) }
  if was = .stuck then raise .lineStuck none 0 0 s else s

/-- A quiet interval at the Standing Unit: counted while SILENT, and the 96th recovers the node (R31). -/
def countQuiet (s : State) : State :=
  let u := s.standingUnit
  if u.standing = .silent then
    if 96 ≤ u.quiet + 1 then recover s else s.setStandingUnit { u with quiet := u.quiet + 1 }
  else s

/-- QUIET_INTERVAL (R4): a veto of this node is over before ten recessive symbols are seen. -/
def execQuietInterval (ties : Ties) (s : State) : Result :=
  event ties.turns (fun s =>
    if s.onLine ∧ (s.line.track = .none ∨ s.line.track = .trailing) then countQuiet (lineQuiet (finishVeto s)) else s) s

/-- LINE_STUCK: the 64th consecutive dominant symbol (R19, R34; log 11). -/
def execLineStuck (s : State) : Result :=
  event [] (fun s => if s.onLine ∧ s.line.lineState ≠ .stuck then lineSticks s else s) s

end Sys2Proof.Machine
end

