-- ==== Sys2Proof/Machine/Requests.lean ====
section
/-! DEFINITION. The seventeen requests of the host (R180 to R196). Each is BUSY in LOADING but RDSTAT (R171). -/

namespace Sys2Proof.Machine

/-! ## CANCEL (R120, R180) -/

/-- A waiting entry leaves; the slot of a FETCH entry is freed; the place is refilled (R120, log 27). -/
def cancelWaiting (c : CellNo) (s : State) : State :=
  refill (slotCancelled c (s.setSendQueue (s.sendQueue.drop c)))

/-- What CANCEL does, by what the Send Queue holds for the cell (R120, R137). -/
def cancelCell (c : CellNo) (s : State) : State :=
  let q := s.sendQueue
  if q.has c then
    if q.flies c then
      respond .inFlight [] (s.setSendQueue (q.update c fun e => { e with cancelRequested := true }))
    else respond .ok [] (cancelWaiting c s)
  else if q.defers c then respond .ok [] (s.setSendQueue (q.undefer c))
  else
    match s.slotHolding c with
    | some i => if (s.slot i).state = .requesting then respond .ok [] (freeSlot i s) else respond .noEntry [] s
    | none => respond .noEntry [] s

/-- CANCEL (R120, R180). -/
def execCancel (c : CellNo) (s : State) : Result := request [] (cancelCell c) s

/-! ## Configuration (R172, R173, R181, R182) -/

/-- How CFGNODE and CFGCELL are decided before their operands are looked at (R172, R173). -/
def configure (effect : State → State) (s : State) : State :=
  if s.loader.straps.stlock then respond .locked [] s
  else if s.node ≠ .config then respond .refused [] s
  else effect s

/-- One cell record taken, or BAD_OPERAND (R173). -/
def configureCell (c : CellNo) (record : BitVec 40) (s : State) : State :=
  match cellConfigOf record with
  | some cfg => respond .ok [] (s.setCell c (CellRecord.fresh s.own cfg))
  | none => respond .badOperand [] s

/-- CFGCELL (R173, R181). -/
def execCfgcell (c : CellNo) (record : BitVec 40) (s : State) : Result := request [] (configure (configureCell c record)) s

/-- A change of the station number moves SELF and the owner of every OWN cell (R54, R78). -/
def moveStation (old new : Station) (s : State) : State :=
  if old = new then s
  else
    let m := (s.membership.setEntry old RosterEntry.reset).setEntry new RosterEntry.own
    (s.setMembership m).setCells (s.cells.map fun r => if r.eff = .own then { r with owner := new } else r)

/-- One parameter set, or BAD_OPERAND (R172). -/
def configureNode (number : Byte) (value : BitVec 40) (s : State) : State :=
  match s.loader.params.set number.toNat value with
  | some p =>
    let t := s.setLoader { s.loader with params := p }
    respond .ok [] (judgeAttn (moveStation s.own p.station t))
  | none => respond .badOperand [] s

/-- CFGNODE (R172, R182). -/
def execCfgnode (number : Byte) (value : BitVec 40) (s : State) : Result := request [] (configure (configureNode number value)) s

/-! ## Membership (R183, R185, R191, R192) -/

/-- What DETACH does (R47). -/
def detachNode (s : State) : State :=
  if s.node = .member then respondNode .ok (enterLeaving s)
  else if s.node = .listening then respondNode .ok (enterDetached 0 s)
  else respondNode .refused s

/-- DETACH (R47, R183). -/
def execDetach (ties : Ties) (s : State) : Result := request ties.turns detachNode s

/-- What JOIN does (R42). -/
def joinNode (s : State) : State :=
  if s.node = .config ∨ s.node = .detached then
    if s.own = 0 then respondNode .noStation s else respondNode .ok (joinLine s)
  else respondNode .refused s

/-- JOIN (R42, R185). -/
def execJoin (s : State) : Result := request [] joinNode s

/-- What REJOIN does (R51). -/
def rejoinNode (s : State) : State :=
  if s.node = .cutOff ∧ s.standingUnit.standing ≠ .silent then respondNode .ok (enterListening s)
  else respondNode .refused s

/-- REJOIN (R51, R191). -/
def execRejoin (s : State) : Result := request [] rejoinNode s

/-- The state after RESTART: every block at its RESTART values, the configuration kept and unfrozen (R1, R23, R36, R53, R54, R62, R78,
R105, R126, R141, R163, R166, R177). -/
def restarted (s : State) : State where
  pending := s.pending
  inReset := s.inReset
  pselHeld := s.pselHeld
  port := s.port
  line := LineInterface.reset
  standingUnit := StandingUnit.reset
  counters := List.replicate Config.counters 0
  membership := { Membership.reset with roster := rosterReset s.own }
  cycle := CycleUnit.reset
  cells := s.cells.map fun r => CellRecord.fresh s.own r.cfg
  sendQueue := SendQueue.reset
  slots := List.replicate Config.fetchSlots FetchSlot.free
  snapshots := Snapshots.reset
  notices := NoticeQueue.reset
  loader := { s.loader with frozen := false, digest := 0 }
  draws := s.draws

/-- RESTART (R53, R177, R192). -/
def execRestart (s : State) : Result := request [] (fun s => respondNode .ok (restarted s)) s

/-! ## FETCH (R127, R128, R184) -/

/-- A fetch begins in a FREE slot (R128). -/
def beginFetch (i : Nat) (c : CellNo) (s : State) : State := askFetchEntry c (s.setSlot i ⟨.requesting, c, 1, 0⟩)

/-- The number of the lowest FREE slot (R128). -/
def State.freeSlotNumber (s : State) : Option Nat := s.slots.findIdx? (·.state == .free)

/-- What FETCH does: the checks in the order of R127. -/
def fetchCell (c : CellNo) (s : State) : State :=
  let r := s.cell c
  if s.node ≠ .member then respond .refused [] s
  else if r.eff ≠ .follow then respond .badRole [] s
  else if r.owner = 0 ∨ (s.entry r.owner).state ≠ .present then respond .noOwner [] s
  else
    match s.slotHolding c, s.freeSlotNumber with
    | some i, _ => respond .pending [byte i] s
    | none, some i => respond .pending [byte i] (beginFetch i c s)
    | none, none => respond .full [] s

/-- FETCH (R127, R184). -/
def execFetch (c : CellNo) (s : State) : Result := request [] (fetchCell c) s

/-! ## Notices and counters (R186, R188, R190) -/

/-- What NOTAKE does (R160, R161). -/
def takeNotice (s : State) : State :=
  match s.notices.list with
  | [] => respond .empty [] s
  | n :: rest =>
    respond .ok (n.results ++ [byte rest.length]) (judgeAttn (s.setNotices { s.notices with list := rest }))

/-- NOTAKE (R160, R186). -/
def execNotake (s : State) : Result := request [] takeNotice s

/-- The results of RDCNT: every counter in counter-number order (R188). -/
def State.counterResults (s : State) : List Byte := s.counters.flatMap bytes2

/-- What RDCNT does (R37). -/
def readCounters (clear : Byte) (s : State) : State :=
  if clear = 0 then respond .ok s.counterResults s
  else if clear = 1 then respond .ok s.counterResults (s.setCounters (List.replicate Config.counters 0))
  else respond .badOperand [] s

/-- RDCNT (R37, R188). -/
def execRdcnt (clear : Byte) (s : State) : Result := request [] (readCounters clear) s

/-- The fetch slots in use (R126). -/
def State.slotsInUse (s : State) : Nat := s.slots.countP FetchSlot.inUse

/-- The results of RDSTAT (R190). -/
def State.statusResults (s : State) : List Byte :=
  [byte s.node.code, byte s.standingUnit.standing.code, byte s.standingUnit.sendFaults, byte s.standingUnit.recvFaults,
    byte (cycleFlags s.cycle.lead s.cycle.synced)]
    ++ bytes2 s.cycle.number.toNat ++ [byte s.sendQueue.entries.length] ++ bytes2 s.sendQueue.deferred.length
    ++ [byte s.slotsInUse, byte s.notices.list.length, byte s.loader.loadStatus.code,
      byte (stickyByte s.standingUnit.highErrorSeen s.standingUnit.lineStuckSeen s.cycle.syncHeld s.notices.overflow)]

/-- What RDSTAT clears and arms once the values are captured (R34, R35, R158, R161, R190). -/
def clearSticky (s : State) : State :=
  let s := s.setStandingUnit { s.standingUnit with highErrorSeen := false, lineStuckSeen := false }
  let s := s.setCycle { s.cycle with syncHeld := s.cycle.synced }
  judgeAttn (s.setNotices { s.notices with overflow := false })

/-- What RDSTAT does (R190). -/
def readStatus (s : State) : State := respond .ok s.statusResults (clearSticky s)

/-- RDSTAT, taken in every node state, LOADING included (R171, R190). -/
def execRdstat (s : State) : Result := transaction [] readStatus s

/-! ## Cells and Roster (R187, R189, R196) -/

/-- What RDCELL does (R102, R139). -/
def readCell (c : CellNo) (s : State) : State :=
  respond (if (s.slotHolding c).isSome then .pending else .ok) (s.cell c).results s

/-- RDCELL (R102, R187). -/
def execRdcell (c : CellNo) (s : State) : Result := request [] (readCell c) s

/-- The results of RDROST: the node's own values for SELF (R54, R189). -/
def State.rosterResults (s : State) (st : Station) : List Byte :=
  let e := s.entry st
  if e.state = .self then
    [byte RosterState.self.code, 0] ++ bytes2 s.loader.digest.toNat
      ++ [byte s.standingUnit.standing.code, byte (flag s.loader.params.leadEligible), byte (flag s.cycle.lead)]
  else e.results

/-- What RDROST does (R189). -/
def readRoster (station : Byte) (s : State) : State :=
  if station.toNat = 0 ∨ 31 < station.toNat then respond .badOperand [] s
  else respond .ok (s.rosterResults (station.setWidth 5)) s

/-- RDROST (R189). -/
def execRdrost (station : Byte) (s : State) : Result := request [] (readRoster station) s

/-- A changing write: value, version, take cycle, the changed flag during a flight, and in MEMBER the change of an ON_CHANGE cell raised
or held (R82, R83). -/
def changeValue (c : CellNo) (value : List Byte) (s : State) : State :=
  let r := s.cell c
  let s := s.setCell c { r with
    value := value
    version := r.version + 1
    takeCycle := s.cycle.number
    changed := r.changed || s.sendQueue.flies c }
  if s.node = .member ∧ r.cfg.policy = .onChange then raiseChange c s else s

/-- What WRCELL does (R81, R82, R196). -/
def writeCell (c : CellNo) (value : List Byte) (s : State) : State :=
  let r := s.cell c
  if 16 < value.length then respond .badOperand [] s
  else if s.node = .halted then respond .refused [] s
  else if r.eff ≠ .own then respond .badRole [] s
  else if value.length ≠ r.cfg.length then respond .badOperand [] s
  else if value = r.value then respond .ok [r.version] s
  else respond .ok [r.version + 1] (changeValue c value s)

/-- WRCELL (R81, R196). -/
def execWrcell (c : CellNo) (value : List Byte) (s : State) : Result := request [] (writeCell c value) s

/-! ## Snapshots (R193 to R195) -/

/-- What SNFREE does (R152). -/
def freeArea (s : State) : State :=
  match s.snapshots.reading with
  | some id => respond .ok [byte id.code] (s.setSnapshots (s.snapshots.setArea id Area.empty))
  | none => respond .refused [] s

/-- SNFREE (R152, R193). -/
def execSnfree (s : State) : Result := request [] freeArea s

/-- The newest READY area opened; an older READY one is emptied and counted (R148, R149). -/
def openNewest (id : AreaId) (s : State) : State :=
  let n := s.snapshots
  let opened := n.setArea id { n.area id with state := .reading }
  if (n.area id.other).state = .ready then
    count .snapshotDrops 1 (s.setSnapshots (opened.setArea id.other Area.empty))
  else s.setSnapshots opened

/-- What SNOPEN does (R149). -/
def openArea (s : State) : State :=
  if s.snapshots.reading.isSome then respond .refused [] s
  else
    match s.snapshots.newest with
    | some id => respond .ok ((s.snapshots.area id).results id) (openNewest id s)
    | none => respond .empty [] s

/-- SNOPEN (R149, R194). -/
def execSnopen (s : State) : Result := request [] openArea s

/-- What SNREAD does (R151). -/
def readCopy (c : CellNo) (s : State) : State :=
  match s.snapshots.reading with
  | none => respond .refused [] s
  | some id =>
    match (s.snapshots.area id).copies.find? (·.cell == c) with
    | some x => respond .ok x.results s
    | none => respond .badRole [] s

/-- SNREAD (R151, R195). -/
def execSnread (c : CellNo) (s : State) : Result := request [] (readCopy c) s

end Sys2Proof.Machine
end

