-- ==== Sys2Proof/Machine/StartUp.lean ====
section
/-! DEFINITION. Reset, straps and preload, and the two ways a transaction ends without a request of the table (R40, R42, R166 to R171,
R176, R179). -/

namespace Sys2Proof.Machine

/-- HARD_RESET: RESET falls. Every block holds its reset values while RESET is low; the queue of commands and the draws are the model's and
stay (R176; logs 1 and 35). The node state and the strap values in that time, for which the manual gives none, are the model's choice: CONFIG, and
the three straps clear (log 2). -/
def execHardReset (s : State) : Result := .next { State.reset with pending := s.pending, inReset := true, draws := s.draws }

/-- The node at the end of a hard reset: every block at its reset values, the straps as sampled, LOADING with the preload begun and its
read request sent under STLOAD, else CONFIG; a PSEL low already starts no transaction (R40, R167, R168, R176, R179). -/
def releaseReset (levels : ReleaseLevels) (s : State) : State :=
  let r := { State.reset with pending := s.pending, pselHeld := levels.pselLow, draws := s.draws }
  (r.setLoader { r.loader with
    straps := levels.straps
    msel := levels.straps.stload
    mdatSent := if levels.straps.stload then Config.readRequest else [] }).setNode
      (if levels.straps.stload then .loading else .config)

/-- RESET_RELEASE: RESET rises and the straps are sampled (R167, R176). -/
def execResetRelease (levels : ReleaseLevels) (s : State) : Result :=
  .next (if s.inReset then releaseReset levels s else s)

/-- The store written at a GOOD preload: the parameters, the cells listed at their reset values, SELF at the station read (R54, R78,
R170). -/
def loadStore (p : Params) (records : List (CellNo × CellConfig)) (s : State) : State :=
  let s := s.setLoader { s.loader with params := p, loadStatus := .good }
  let s := records.foldl (fun t r => t.setCell r.1 (CellRecord.fresh p.station r.2)) s
  judgeAttn (s.setMembership { s.membership with roster := rosterReset p.station })

/-- The end of the preload: MSEL is deasserted, the port is not used again, and the node enters CONFIG (R168, R170). -/
def endPreload (s : State) : State := (s.setLoader { s.loader with msel := false, mdatSent := [] }).setNode .config

/-- The JOIN that STJOIN supplies at the end of a GOOD preload with the station number set; it makes no response (R42, R174). -/
def joinByStrap (s : State) : State :=
  if s.loader.straps.stjoin ∧ s.loader.loadStatus = .good ∧ s.own ≠ 0 then joinLine s else s

/-- The preload judged by the levels read from the memory (R170). -/
def finishPreload (levels : List Level) (restLevel : Level) (s : State) : State :=
  match preload levels restLevel s.loader.params with
  | .noMemory => endPreload (s.setLoader { s.loader with loadStatus := .noMemory })
  | .badCheck => endPreload (s.setLoader { s.loader with loadStatus := .badCheck })
  | .good p records => joinByStrap (endPreload (loadStore p records s))

/-- PRELOAD_END: the preload ends by what it has read of the memory (R168 to R170). -/
def execPreloadEnd (levels : List Level) (restLevel : Level) (s : State) : Result :=
  event [] (fun s => if s.node = .loading then finishPreload levels restLevel s else s) s

/-- TRANSACTION_ABORT: PSEL rises before the request has been taken; no block sees it, and the next fall of PSEL begins a transaction
(R179). -/
def execTransactionAbort (s : State) : Result := .next (if s.inReset then s else s.setPselHeld false)

/-- UNKNOWN: a code byte that names no request is answered UNKNOWN, or BUSY in LOADING (R171, R179). -/
def execUnknown (code : Byte) (s : State) : Result :=
  if namesRequest code then .next s else request [] (respond .unknown []) s

end Sys2Proof.Machine
end

