-- ==== Sys2Proof/Machine/Dispatch.lean ====
section
/-! DEFINITION. The meaning of every command, one arm per constructor. -/

namespace Sys2Proof.Machine

/-- The effect of a command on everything but the queue. -/
def exec (i : Instr) (s : State) : Host.Outcome State Fault Refusal :=
  match i with
  | .hardReset => Sys2Proof.Machine.execHardReset s
  | .resetRelease levels => Sys2Proof.Machine.execResetRelease levels s
  | .preloadEnd levels restLevel => Sys2Proof.Machine.execPreloadEnd levels restLevel s
  | .transactionAbort => Sys2Proof.Machine.execTransactionAbort s
  | .unknown code => Sys2Proof.Machine.execUnknown code s
  | .cancel cell => Sys2Proof.Machine.execCancel cell s
  | .cfgcell cell record => Sys2Proof.Machine.execCfgcell cell record s
  | .cfgnode number value => Sys2Proof.Machine.execCfgnode number value s
  | .detach ties => Sys2Proof.Machine.execDetach ties s
  | .fetch cell => Sys2Proof.Machine.execFetch cell s
  | .join => Sys2Proof.Machine.execJoin s
  | .notake => Sys2Proof.Machine.execNotake s
  | .rdcell cell => Sys2Proof.Machine.execRdcell cell s
  | .rdcnt clear => Sys2Proof.Machine.execRdcnt clear s
  | .rdrost station => Sys2Proof.Machine.execRdrost station s
  | .rdstat => Sys2Proof.Machine.execRdstat s
  | .rejoin => Sys2Proof.Machine.execRejoin s
  | .restart => Sys2Proof.Machine.execRestart s
  | .snfree => Sys2Proof.Machine.execSnfree s
  | .snopen => Sys2Proof.Machine.execSnopen s
  | .snread cell => Sys2Proof.Machine.execSnread cell s
  | .wrcell cell value => Sys2Proof.Machine.execWrcell cell value s
  | .frameStart => Sys2Proof.Machine.execFrameStart s
  | .outcomeLost view => Sys2Proof.Machine.execOutcomeLost view s
  | .outcomeClash view ties => Sys2Proof.Machine.execOutcomeClash view ties s
  | .outcomeLone view ties => Sys2Proof.Machine.execOutcomeLone view ties s
  | .outcomeVetoed view ties => Sys2Proof.Machine.execOutcomeVetoed view ties s
  | .outcomeSent view ties => Sys2Proof.Machine.execOutcomeSent view ties s
  | .driverTimeout report => Sys2Proof.Machine.execDriverTimeout report s
  | .frameTaken view ties => Sys2Proof.Machine.execFrameTaken view ties s
  | .receiveFault view ties => Sys2Proof.Machine.execReceiveFault view ties s
  | .frameDiscarded view => Sys2Proof.Machine.execFrameDiscarded view s
  | .quietInterval ties => Sys2Proof.Machine.execQuietInterval ties s
  | .lineStuck => Sys2Proof.Machine.execLineStuck s
  | .suspensionEnd => Sys2Proof.Machine.execSuspensionEnd s
  | .recovery ties => Sys2Proof.Machine.execRecovery ties s
  | .windowClose => Sys2Proof.Machine.execWindowClose s
  | .silenceDeparture station ties => Sys2Proof.Machine.execSilenceDeparture station ties s
  | .listenWindowEnd ties => Sys2Proof.Machine.execListenWindowEnd ties s
  | .presenceFill => Sys2Proof.Machine.execPresenceFill s
  | .localCycleStart ties => Sys2Proof.Machine.execLocalCycleStart ties s
  | .markFill => Sys2Proof.Machine.execMarkFill s
  | .lossOfSync ties => Sys2Proof.Machine.execLossOfSync ties s
  | .takeover => Sys2Proof.Machine.execTakeover s
  | .cellStale cell => Sys2Proof.Machine.execCellStale cell s
  | .cellLost cell => Sys2Proof.Machine.execCellLost cell s
  | .claimRegained cell ties => Sys2Proof.Machine.execClaimRegained cell ties s
  | .gapEnd cell => Sys2Proof.Machine.execGapEnd cell s
  | .fetchTryEnd slot => Sys2Proof.Machine.execFetchTryEnd slot s
  | .startSymbol => Sys2Proof.Machine.execStartSymbol s

end Sys2Proof.Machine
end

