-- ==== Sys2Proof/Machine/Step.lean ====
section
/-! DEFINITION. One step of the node: the command at the front of the queue, or one unit of time on an empty queue (log 3). -/

namespace Sys2Proof.Machine

/-- One step: the command at the front is taken and has its effect on everything but the queue; on an empty queue one unit of time
passes (log 3). -/
def step (s : State) : Host.Outcome State Fault Refusal :=
  match s.pending with
  | [] => .next (tick s)
  | c :: rest => exec c (s.setPending rest)

/-- The state with the command that a word spells put at the front of its queue; unchanged where the word spells none (log 29). -/
def State.withFetchWord (s : State) (nbits w : Nat) : State :=
  match decodeTableWord nbits w with
  | some c => s.setPending (c :: s.pending)
  | none => s

end Sys2Proof.Machine
end

