-- ==== Sys2Proof/Safety.lean ====
section
/-! DEFINITION. What the statements about the node speak of: which blocks a step changes, and what it means for a state to be sound. -/

namespace Sys2Proof.Machine

/-! ## Frames: which parts of the state a step changes -/

/-- A part of the state. Most parts are whole blocks. Some lie inside a block, so that a statement can say that a block changes but
not there: `driver` in the line; `level`, the standing, in the Standing Unit; `node`, the node state, in the membership; `clock`, the
cycle number, the two cycle timers, the sync state and SYNC_HELD, and `lead`, the lead flag, in the Cycle Unit; `posted`, everything but
the outbox, in the Notice Queue; `params`, the node parameters, in the Loader; `flight`, the in-flight slot, in the Send Queue; `lineCounters`, the
first seven counters, in the counters. `draws` counts the free values drawn (log 35). -/
inductive Block where
  | pending
  | inReset
  | pselHeld
  | port
  | line
  | driver
  | standing
  | level
  | counters
  | lineCounters
  | membership
  | node
  | cycle
  | clock
  | lead
  | cells
  | sendQueue
  | flight
  | slots
  | snapshots
  | notices
  | posted
  | loader
  | params
  | draws
  deriving DecidableEq, Repr

/-- Is the part the same in both states? -/
def Block.same (s t : State) : Block → Prop
  | .pending => t.pending = s.pending
  | .inReset => t.inReset = s.inReset
  | .pselHeld => t.pselHeld = s.pselHeld
  | .port => t.port = s.port
  | .line => t.line = s.line
  | .driver => t.line.driver = s.line.driver
  | .standing => t.standingUnit = s.standingUnit
  | .level => t.standingUnit.standing = s.standingUnit.standing
  | .counters => t.counters = s.counters
  | .lineCounters => t.counters.take 7 = s.counters.take 7
  | .membership => t.membership = s.membership
  | .node => t.membership.node = s.membership.node
  | .cycle => t.cycle = s.cycle
  | .clock => t.cycle.number = s.cycle.number ∧ t.cycle.cycleTimer = s.cycle.cycleTimer ∧ t.cycle.markTimer = s.cycle.markTimer
      ∧ t.cycle.synced = s.cycle.synced ∧ t.cycle.syncHeld = s.cycle.syncHeld
  | .lead => t.cycle.lead = s.cycle.lead
  | .cells => t.cells = s.cells
  | .sendQueue => t.sendQueue = s.sendQueue
  | .flight => t.sendQueue.inFlight = s.sendQueue.inFlight
  | .slots => t.slots = s.slots
  | .snapshots => t.snapshots = s.snapshots
  | .notices => t.notices = s.notices
  | .posted => t.notices.list = s.notices.list ∧ t.notices.overflow = s.notices.overflow ∧ t.notices.attn = s.notices.attn
  | .loader => t.loader = s.loader
  | .params => t.loader.params = s.loader.params
  | .draws => t.draws = s.draws

/-- Every part but those named is the same in both states. -/
def ChangesOnly (parts : List Block) (s t : State) : Prop := ∀ b : Block, b ∈ parts ∨ b.same s t

/-- The parts that the end of a reception can change whatever the frame holds: the line, the Standing Unit, the counters, the Notice Queue
and, for its sender's silence, the Roster. -/
def Block.reception : List Block :=
  [.line, .driver, .standing, .level, .counters, .lineCounters, .membership, .notices, .posted]

/-- The parts that a cycle start by a timer can change, with the time that passes before it. -/
def Block.timely : List Block :=
  [.snapshots, .counters, .lineCounters, .membership, .node, .line, .driver, .cycle, .clock, .lead, .cells, .slots, .sendQueue, .notices,
    .posted]

/-! ## When commands are taken -/

/-- Out of reset and with every notice of earlier steps in the queue (R176, log 8). -/
def Live (s : State) : Prop := s.inReset = false ∧ s.notices.outbox = []

/-- Live, with PSEL free to begin a transaction: a request is taken, be it with BUSY (R171, R179). -/
def Asked (s : State) : Prop := Live s ∧ s.pselHeld = false

/-- Asked, and not in LOADING: a request reaches its owner (R171). -/
def Ready (s : State) : Prop := Asked s ∧ s.node ≠ .loading

/-- The command that reports an outcome of the own frame (R11, R12, R16, R17). -/
def outcomeCommand (o : OutcomeKind) (view : LineView) (ties : Ties) : Instr :=
  match o with
  | .sent => .outcomeSent view ties
  | .lost => .outcomeLost view
  | .clash => .outcomeClash view ties
  | .vetoed => .outcomeVetoed view ties
  | .lone => .outcomeLone view ties

/-- The counters with counter `k` raised by `n`, saturating (R36). -/
def bump (k n : Nat) (counters : List Nat) : List Nat := counters.set k (min (counters.getD k 0 + n) 65535)

/-! ## Reset values -/

/-- The values of R1, R23, R36, R62, R105, R126, R141 and R163 after a hard reset and after RESTART. -/
def RuntimeAtReset (s : State) : Prop :=
  (s.line.lineState = .busy ∧ s.line.track = .none ∧ s.line.driver = .released ∧ s.line.vetoDue = none ∧ s.line.idleRun = 0
      ∧ s.line.dominantRun = 0 ∧ s.line.suspension = false)
    ∧ s.standingUnit = ⟨0, 0, .active, 0, 0, 0, false, false, false⟩
    ∧ s.counters = List.replicate 13 0
    ∧ (s.membership.markTally = 0 ∧ s.membership.startTally = 0 ∧ s.membership.presenceCount = 0
      ∧ s.membership.presence.filled = false ∧ s.membership.presence.leaving = false ∧ s.membership.presence.attempts = 0)
    ∧ s.cycle = ⟨0, 0, 0, none, false, false, .empty, 0, false⟩
    ∧ (s.sendQueue.entries = [] ∧ s.sendQueue.deferred = [] ∧ s.sendQueue.inFlight = none)
    ∧ s.slots = List.replicate 4 ⟨.free, 0, 0, 0⟩
    ∧ (s.snapshots.areaA = ⟨.empty, 0, false, 0, []⟩ ∧ s.snapshots.areaB = ⟨.empty, 0, false, 0, []⟩ ∧ s.snapshots.newer = none)
    ∧ (s.notices.list = [] ∧ s.notices.overflow = false ∧ s.notices.attn = false)

/-- The values of R54, R77, R78, R166 and R172 after a hard reset: nothing configured, nothing loaded. -/
def ConfigurationAtReset (s : State) : Prop :=
  s.membership.roster = List.replicate 31 ⟨.absent, 0, 0, .active, false, false⟩
    ∧ s.cells = List.replicate 256 ⟨⟨.unused, 1, 0, false, .cyclic, 1, 0, 0, 0⟩, .unused, [], 0, 0, .never, 0, 0, false, false, 0⟩
    ∧ s.loader.loadStatus = .none ∧ s.loader.frozen = false ∧ s.loader.digest = 0 ∧ s.loader.msel = false ∧ s.loader.mdatSent = []
    ∧ s.loader.params = ⟨0, 2, 1000, 4, true, 256, 4, 3, .key, 2, 3, false, .keepOld, BitVec.allOnes 34, 0, .keepNewest,
        65535, 65535, 65535, 65535⟩

/-! ## Soundness of a state -/

/-- Notices wait nowhere but in the queue, which holds at most 32, and ATTN stands as R161 says. -/
def NoticesSound (s : State) : Prop :=
  s.notices.outbox = [] ∧ s.notices.list.length ≤ Config.noticePlaces
    ∧ s.notices.attn = attnOf s.loader.params s.notices.list s.notices.overflow

/-- At most 16 queue entries, no cell in two of them, and the deferred cells in ascending order (R105, R108). -/
def QueueSound (s : State) : Prop :=
  s.sendQueue.entries.length ≤ Config.queuePlaces ∧ (s.sendQueue.entries.map Entry.cell).Nodup
    ∧ (s.sendQueue.deferred.map Prod.fst).Pairwise (· < ·)

/-- A free place waits for no one: a cell is deferred, and a slot REQUESTING has no entry, only while all 16 places are in use; and a cell is
deferred only while it is OWN and has no entry (R105, R108, R110). -/
def PlacesFilled (s : State) : Prop :=
  (∀ d ∈ s.sendQueue.deferred, (s.cell d.1).eff = .own ∧ s.sendQueue.has d.1 = false)
  ∧ (s.sendQueue.entries.length < 16 →
      s.sendQueue.deferred = [] ∧ ∀ f ∈ s.slots, f.state = .requesting → s.sendQueue.has f.cell = true)

/-- Thirteen counters, each at most 65535 (R36). -/
def CountersSound (s : State) : Prop := s.counters.length = Config.counters ∧ ∀ n ∈ s.counters, n ≤ 65535

/-- 256 cell records, 31 Roster entries, four fetch slots (R54, R77, R126). -/
def ShapeSound (s : State) : Prop :=
  s.cells.length = Config.cells ∧ s.membership.roster.length = Config.stations ∧ s.slots.length = Config.fetchSlots

/-- At most one snapshot area is READING (R142), and with both READY the marker names one (R141). -/
def SnapshotsSound (s : State) : Prop :=
  ¬ (s.snapshots.areaA.state = .reading ∧ s.snapshots.areaB.state = .reading)
    ∧ (s.snapshots.areaA.state = .ready → s.snapshots.areaB.state = .ready → s.snapshots.newer ≠ none)

/-- The driver drives only within the bounds of R2: in LISTENING, MEMBER or LEAVING, and not SILENT; a veto only while ACTIVE. A veto is due
only after a frame, while none is tracked (R12, R14). -/
def DriverBounded (s : State) : Prop :=
  (s.line.driver ≠ .released → s.mayDrive = true) ∧ (∀ left, s.line.driver = .veto left → s.mayVeto = true)
    ∧ (s.line.vetoDue ≠ none → s.line.track = .none)

/-- The standing fits the fault counts unless it is SILENT, and a SILENT node is in CUT_OFF or HALTED (R27, R50, R52). -/
def StandingSound (s : State) : Prop :=
  (s.standingUnit.standing ≠ .silent →
      s.standingUnit.standing = standingOf s.standingUnit.sendFaults s.standingUnit.recvFaults)
    ∧ (s.standingUnit.standing = .silent → s.node = .cutOff ∨ s.node = .halted)

/-- The lead is held only in MEMBER, by an eligible node that is not SILENT (R69). -/
def LeadSound (s : State) : Prop :=
  s.cycle.lead = true → s.node = .member ∧ s.loader.params.leadEligible = true ∧ s.standingUnit.standing ≠ .silent

/-- Fetch slots are in use only in MEMBER, no two in use hold the same cell, and each in use holds a FOLLOW cell (R126, R127). -/
def SlotsSound (s : State) : Prop :=
  (s.node ≠ .member → ∀ f ∈ s.slots, f.inUse = false) ∧ ((s.slots.filter FetchSlot.inUse).map FetchSlot.cell).Nodup
    ∧ ∀ f ∈ s.slots, f.inUse = true → (s.cell f.cell).eff = .follow

/-- Every cell's value, and every copy's in the snapshot areas, has exactly the bytes of its length (R78, R145). -/
def ValuesFit (s : State) : Prop :=
  (∀ r ∈ s.cells, r.value.length = r.cfg.length)
    ∧ (∀ x ∈ s.snapshots.areaA.copies, x.value.length = x.length) ∧ (∀ x ∈ s.snapshots.areaB.copies, x.value.length = x.length)

/-- A frozen configuration is not open: the node has left LOADING and CONFIG (R174). -/
def FrozenSound (s : State) : Prop := s.loader.frozen = true → s.node ≠ .loading ∧ s.node ≠ .config

/-! ## Freezes and cycle starts -/

/-- What a freeze at a cycle start of number `n` leaves in the areas, and its count in SNAPSHOT_DROPS, by the areas' states and the
policy (R145, R146, R147, R148). -/
def Froze (n : CycleNo) (s t : State) : Prop :=
  let x : Area := ⟨.ready, n, s.copies.all CellCopy.current, s.copies.length, s.copies⟩
  let a := s.snapshots.areaA
  let b := s.snapshots.areaB
  (a.state = .empty → t.snapshots = ⟨x, b, some .a⟩ ∧ t.counters.getD 11 0 = s.counters.getD 11 0)
  ∧ (a.state ≠ .empty → b.state = .empty → t.snapshots = ⟨a, x, some .b⟩ ∧ t.counters.getD 11 0 = s.counters.getD 11 0)
  ∧ (a.state ≠ .empty → b.state ≠ .empty → s.loader.params.snapshotPolicy = .keepFirst →
      t.snapshots = s.snapshots ∧ t.counters.getD 11 0 = min (s.counters.getD 11 0 + 1) 65535)
  ∧ (a.state ≠ .empty → b.state ≠ .empty → s.loader.params.snapshotPolicy = .keepNewest →
      t.counters.getD 11 0 = min (s.counters.getD 11 0 + 1) 65535
      ∧ (a.state = .ready → (b.state = .reading ∨ s.snapshots.newer = some .b) → t.snapshots = ⟨x, b, some .a⟩)
      ∧ (b.state = .ready → (a.state = .reading ∨ s.snapshots.newer = some .a) → t.snapshots = ⟨a, x, some .b⟩))

/-- The silence count of a Roster entry one cycle start later: it rests at 255 (R54, R58). -/
def RosterEntry.agedSilence (e : RosterEntry) : Nat := min (e.silence + 1) (max 255 e.silence)

/-- Does the station depart by silence at a cycle start? The sender of the mark taken that makes it, if one does, is not aged (R58). -/
def Departs (sender : Option Station) (s : State) (st : Station) : Prop :=
  (s.entry st).heard = true ∧ sender ≠ some st ∧ 3 * s.loader.params.presenceInterval < (s.entry st).agedSilence

/-- What the triggers of a cell at one event leave of it in a member's send queue. An entry stays as it is, with its cancel cleared. Of a cell
deferred the first reason stands, with its deferred place or with the entry that a freed place became. Else the cell has an entry, with one of
the reasons and no attempt, or a deferred place with one of the reasons (R107, R108, R110). -/
def PublishedBy (reasons : List Reason) (c : CellNo) (s t : State) : Prop :=
  let entered (reason : Reason) := ∃ place, (⟨.publication, c, reason, 0, place, false⟩ : Entry) ∈ t.sendQueue.entries
  (∀ e ∈ s.sendQueue.entries, e.cell = c → { e with cancelRequested := false } ∈ t.sendQueue.entries)
  ∧ (s.sendQueue.has c = false → ∀ reason, (c, reason) ∈ s.sendQueue.deferred →
      (s.sendQueue.deferred.map Prod.fst).Nodup → (c, reason) ∈ t.sendQueue.deferred ∨ entered reason)
  ∧ (s.sendQueue.has c = false → s.sendQueue.defers c = false →
      ∃ reason ∈ reasons, (c, reason) ∈ t.sendQueue.deferred ∨ entered reason)

/-- At every kind of cycle start the command that makes it answers a next state of which `advance` holds: local, by loss of sync, by a mark
taken from another station, and by the node's own mark SENT or LONE. `advance` is given the cycle's number and the sender of a mark taken
(R64, R65, R67, R68). -/
def AtEveryCycleStart (s : State) (ties : Ties) (advance : CycleNo → Option Station → State → Prop) : Prop :=
  (s.cycle.synced = false → ∃ t, exec (.localCycleStart ties) s = .next t ∧ advance (s.cycle.number + 1) none t)
  ∧ (s.cycle.synced = true → ∃ t, exec (.lossOfSync ties) s = .next t ∧ advance (s.cycle.number + 1) none t)
  ∧ (∀ (view : FrameView) (f : Frame) (n : CycleNo), s.receives = true → view.frame? = some f → f.station ≠ s.own → f.body = .mark n →
      (s.entry f.station).state ≠ .foreign → ∃ t, exec (.frameTaken view ties) s = .next t ∧ advance n (some f.station) t)
  ∧ (∀ (view : LineView) (image : Frame) (n : CycleNo) (o : OutcomeKind), s.sendQueue.inFlight = some ⟨.mark, image⟩ →
      image.body = .mark n → (o = .sent ∨ o = .lone) → s.awaits view o = true →
      ∃ t, exec (outcomeCommand o view ties) s = .next t ∧ advance n none t)

/-- What a cycle start of number `n` makes of the cells: gaps count down and end, replicas age, become STALE, LOST or are regained, and
cyclic turns are taken. Of a replica whose owner departs `RosterAdvances` speaks. A cell OWN at entry to MEMBER loses its held flag (R91,
R92, R93, R96, R97, R98). -/
def CellsAdvance (n : CycleNo) (sender : Option Station) (s t : State) : Prop :=
  ∀ c : CellNo,
    let r := s.cell c
    let age := min (r.age + 1) (max 255 r.age)
    let gap := r.gapCount - 1
    let past := 4 * r.cfg.expected < age ∨ 255 ≤ age
    let own (x : CellRecord) := if s.node = .listening ∧ t.node = .member then { x with held := false } else x
    (r.eff = .unused → t.cell c = r)
    ∧ (r.eff = .own →
        (r.cfg.policy ≠ .onChange → t.cell c = own r)
        ∧ (r.cfg.policy = .onChange → t.cell c = own { r with gapCount := gap, held := r.held && gap != 0 })
        ∧ (s.node = .member → r.cfg.policy = .onChange → r.held = true → gap = 0 → PublishedBy [.change] c s t)
        ∧ (s.node = .member → r.cfg.policy = .cyclic → n.toNat % r.cfg.period = r.cfg.phase → PublishedBy [.cyclic] c s t))
    ∧ ((r.eff = .follow ∨ r.eff = .yielded) → ¬Departs sender s r.owner →
        ((r.freshness = .never ∨ r.freshness = .lost) → t.cell c = r)
        ∧ (r.freshness = .fresh → (r.cfg.expected = 0 ∨ age ≤ r.cfg.expected) → t.cell c = { r with age := age })
        ∧ (r.freshness = .fresh → 0 < r.cfg.expected → r.cfg.expected < age → t.cell c = { r with age := age, freshness := .stale })
        ∧ (r.freshness = .stale → (r.cfg.expected = 0 ∨ ¬past) → t.cell c = { r with age := age })
        ∧ (r.freshness = .stale → 0 < r.cfg.expected → past → r.eff = .follow → t.cell c = { r with age := age, freshness := .lost })
        ∧ (r.freshness = .stale → 0 < r.cfg.expected → past → r.eff = .yielded →
            t.cell c = own { r with eff := .own, owner := s.own, freshness := .never, age := 0 }
              ∧ (s.node = .member → PublishedBy [.join] c s t)))

/-- What a cycle start makes of the Roster: the entries heard age, that of the sender of a mark taken returns to 0, and a station silent for
too long becomes ABSENT, its FRESH and STALE replicas LOST (aged before that or not: R94), the cells yielded to it regained (R57, R58, R59,
R99). -/
def RosterAdvances (sender : Option Station) (s t : State) : Prop :=
  ∀ st : Station,
    let e := s.entry st
    (e.heard = false → t.entry st = e)
    ∧ (e.heard = true → sender = some st → t.entry st = { e with silence := 0 })
    ∧ (e.heard = true → sender ≠ some st → ¬Departs sender s st → t.entry st = { e with silence := e.agedSilence })
    ∧ (Departs sender s st → t.entry st = { e with state := .absent, silence := 0 }
        ∧ (∀ c : CellNo, let r := s.cell c
            r.eff = .follow → r.owner = st → (r.freshness = .fresh ∨ r.freshness = .stale) →
              t.cell c = { r with freshness := .lost }
                ∨ t.cell c = { r with freshness := .lost, age := min (r.age + 1) (max 255 r.age) })
        ∧ (∀ c : CellNo, let r := s.cell c
            r.eff = .yielded → r.owner = st →
              (∃ held gap, t.cell c = { r with
                eff := .own, owner := s.own, freshness := .never, age := 0, held := held, gapCount := gap })
              ∧ (s.node = .member → PublishedBy [.join] c s t)))

/-- What a cycle start makes of the fetch slots: an AWAITING one counts down; at the end of its try it goes back to REQUESTING, with an entry
or with none free, or fails; a departure of the cell's owner fails it, and its waiting entry goes. Every other entry stays, at most with its
cancel cleared, and the places freed are given to those that wait for one (R107, R109, R110, R128, R130, R135). -/
def SlotsAdvance (sender : Option Station) (s t : State) : Prop :=
  let fails (f : FetchSlot) := f.inUse = true ∧ Departs sender s (s.cell f.cell).owner
  (∀ i : Nat,
    let f := s.slot i
    (f.state = .free → t.slot i = f)
    ∧ (fails f → t.slot i = ⟨.free, 0, 0, 0⟩)
    ∧ (fails f → f.state = .requesting → s.sendQueue.flies f.cell = false → s.sendQueue.defers f.cell = false →
        t.sendQueue.has f.cell = false)
    ∧ (¬Departs sender s (s.cell f.cell).owner →
        (f.state = .requesting → t.slot i = f)
        ∧ (f.state = .awaiting → 1 < f.timer → t.slot i = { f with timer := f.timer - 1 })
        ∧ (f.state = .awaiting → f.timer ≤ 1 → s.loader.params.fetchTries ≤ f.tries → t.slot i = ⟨.free, 0, 0, 0⟩)
        ∧ (f.state = .awaiting → f.timer ≤ 1 → f.tries < s.loader.params.fetchTries →
            t.slot i = ⟨.requesting, f.cell, f.tries + 1, 0⟩
              ∧ (∀ e ∈ s.sendQueue.entries, e.cell = f.cell → { e with cancelRequested := false } ∈ t.sendQueue.entries)
              ∧ (s.sendQueue.has f.cell = false →
                  (∃ place, (⟨.fetch, f.cell, .request, 0, place, false⟩ : Entry) ∈ t.sendQueue.entries)
                    ∨ 16 ≤ t.sendQueue.entries.length))))
  ∧ (∀ e ∈ s.sendQueue.entries,
      (s.sendQueue.flies e.cell = true ∨ ∀ f ∈ s.slots, f.cell = e.cell → ¬fails f) →
      e ∈ t.sendQueue.entries ∨ { e with cancelRequested := false } ∈ t.sendQueue.entries)
  ∧ (QueueSound s → PlacesFilled s → PlacesFilled t)

/-- What a cycle start makes of a listening node: the tallies rise to at most 2 and W, and the node becomes MEMBER at their end, with its
presence filled, its OWN cells published, and the lead or the takeover timer as they say. Elsewhere the tallies and the node state stand
(R44, R45, R69). -/
def ListenAdvances (sender : Option Station) (s t : State) : Prop :=
  let marks := min (s.membership.markTally + (if sender = none then 0 else 1)) 2
  let starts := min (s.membership.startTally + 1) s.loader.params.listenWindow
  (s.node ≠ .listening → t.node = s.node ∧ t.membership.markTally = s.membership.markTally
      ∧ t.membership.startTally = s.membership.startTally)
  ∧ (s.node = .listening → t.membership.markTally = marks ∧ t.membership.startTally = starts
      ∧ (marks < 2 → starts < s.loader.params.listenWindow → t.node = .listening)
      ∧ ((2 ≤ marks ∨ s.loader.params.listenWindow ≤ starts) → t.node = .member ∧ t.membership.presenceCount = 0
          ∧ t.membership.presence.filled = true ∧ (∀ c, (t.cell c).eff = .own → PublishedBy [.join] c s t)
          ∧ (s.loader.params.leadEligible = true → marks = 0 →
              t.cycle.lead = true ∧ t.cycle.mark = .waiting ∧ t.cycle.markNumber = t.cycle.number + 1 ∧ t.cycle.takeover = none)
          ∧ (s.loader.params.leadEligible = true → marks ≠ 0 → t.cycle.takeover = some 0)))

/-- What a cycle start makes of the presence: in MEMBER the count rises, and at I it returns to 0 and the entry is filled, a filled one
standing as it is. In every other state both stand, but for entry to MEMBER (R46). -/
def PresenceAdvances (s t : State) : Prop :=
  let m := s.membership
  (s.node = .member →
    (m.presenceCount + 1 < s.loader.params.presenceInterval →
      t.membership.presenceCount = m.presenceCount + 1 ∧ t.membership.presence = m.presence)
    ∧ (s.loader.params.presenceInterval ≤ m.presenceCount + 1 → t.membership.presenceCount = 0
        ∧ (m.presence.filled = true → t.membership.presence = m.presence)
        ∧ (m.presence.filled = false → ∃ place, t.membership.presence = ⟨true, false, 0, place⟩)))
  ∧ (s.node ≠ .member → t.node = s.node → t.membership.presenceCount = m.presenceCount ∧ t.membership.presence = m.presence)

/-! ## Other events in one step -/

/-- What the end of an observation window with so many faults leaves (R33, R34). -/
def WindowJudged (faults : Nat) (s t : State) : Prop :=
  t.standingUnit.observations = 0 ∧ t.standingUnit.faults = 0
    ∧ t.standingUnit.highError = (if 8 ≤ faults then true else if 2 ≤ faults then s.standingUnit.highError else false)
    ∧ t.standingUnit.highErrorSeen = (s.standingUnit.highErrorSeen || decide (8 ≤ faults))

/-- What a fall to SILENT and entry to CUT_OFF leave: the driver released, the queue flushed, the slots abandoned, the lead dropped (R29,
R50, R73, R95, R123, R136). -/
def EnteredCutOff (t : State) : Prop :=
  t.node = .cutOff ∧ t.standingUnit.standing = .silent ∧ t.standingUnit.quiet = 0
    ∧ t.line.driver = .released ∧ t.line.vetoDue = none
    ∧ t.sendQueue.entries = [] ∧ t.sendQueue.deferred = [] ∧ t.sendQueue.inFlight = none
    ∧ t.cycle.lead = false ∧ t.cycle.takeover = none ∧ t.cycle.mark = .empty
    ∧ t.membership.presence = ⟨false, false, 0, 0⟩
    ∧ (∀ f ∈ t.slots, f.inUse = false) ∧ ∀ r ∈ t.cells, r.changed = false

/-- The entry of a cell has left a member's queue and its place is given to one that waits for it: the lowest slot REQUESTING without an
entry, else the lowest deferred cell, at the end of the arrival order, else to no one. The other entries stay as they were (R110). -/
def PlaceGiven (c : CellNo) (s t : State) : Prop :=
  let rest := s.sendQueue.entries.filter (·.cell != c)
  let waits (i : Nat) := (t.slot i).state = .requesting ∧ ∀ e ∈ rest, e.cell ≠ (t.slot i).cell
  let given (kind : EntryKind) (cell : CellNo) (reason : Reason) :=
    t.sendQueue.entries = rest ++ [⟨kind, cell, reason, 0, s.sendQueue.nextArrival, false⟩]
      ∧ t.sendQueue.nextArrival = s.sendQueue.nextArrival + 1
  (∀ i, waits i → (∀ j < i, ¬waits j) →
    given .fetch (t.slot i).cell .request ∧ t.sendQueue.deferred = s.sendQueue.deferred)
  ∧ ((∀ i, ¬waits i) →
      (s.sendQueue.deferred = [] → t.sendQueue.entries = rest ∧ t.sendQueue.deferred = []
        ∧ t.sendQueue.nextArrival = s.sendQueue.nextArrival)
      ∧ ∀ d ∈ s.sendQueue.deferred, (∀ x ∈ s.sendQueue.deferred, d.1 ≤ x.1) → (∀ e ∈ rest, e.cell ≠ d.1) →
          given .publication d.1 d.2 ∧ t.sendQueue.deferred = s.sendQueue.deferred.filter (·.1 != d.1))

/-- What a trigger of a cell makes of a member's queue `q`: it merges into the cell's entry, whose cancel is cleared; it merges into the cell's
deferred place, where the first reason stands; it creates an entry at the end of the arrival order, while a place is free; else the cell is
deferred, at its place in ascending cell order (R107, R108). -/
def Triggered (c : CellNo) (reason : Reason) (q r : SendQueue) : Prop :=
  (q.has c = true → r = { q with entries := q.entries.map fun e => if e.cell = c then { e with cancelRequested := false } else e })
  ∧ (q.has c = false → q.defers c = true → r = q)
  ∧ (q.has c = false → q.defers c = false → q.entries.length < 16 →
      r = { q with
        entries := q.entries ++ [⟨.publication, c, reason, 0, q.nextArrival, false⟩]
        nextArrival := q.nextArrival + 1 })
  ∧ (q.has c = false → q.defers c = false → 16 ≤ q.entries.length → (q.deferred.map Prod.fst).Pairwise (· < ·) →
      r = { q with deferred := q.deferred.filter (·.1 < c) ++ (c, reason) :: q.deferred.filter (c < ·.1) })

/-- What triggers of several cells make of a member's queue, one after another. -/
def TriggeredAll (reason : Reason) : List CellNo → SendQueue → SendQueue → Prop
  | [], q, r => r = q
  | c :: cs, q, r => ∃ u, Triggered c reason q u ∧ TriggeredAll reason cs u r

/-- A fetch slot judged at a departure, with the cells whose owner departs: it is freed, its waiting entry goes and its place is given away,
one in flight stays (R109, R110, R135). -/
def FetchJudged (departs : CellNo → Prop) (i : Nat) (s t : State) : Prop :=
  let f := s.slot i
  let fails := f.inUse = true ∧ departs f.cell
  let waiting := f.state = .requesting ∧ s.sendQueue.has f.cell = true ∧ s.sendQueue.flies f.cell = false
  (¬fails → t.slots = s.slots ∧ t.sendQueue = s.sendQueue)
  ∧ (fails → t.slots = s.slots.set i ⟨.free, 0, 0, 0⟩ ∧ t.sendQueue.inFlight = s.sendQueue.inFlight)
  ∧ (fails → waiting → PlaceGiven f.cell s t)
  ∧ (fails → ¬waiting → t.sendQueue = s.sendQueue)

/-- The four fetch slots judged at a departure, in ascending order (R135). -/
def FetchesJudged (departs : CellNo → Prop) (s t : State) : Prop :=
  ∃ a b c, FetchJudged departs 0 s a ∧ FetchJudged departs 1 a b ∧ FetchJudged departs 2 b c ∧ FetchJudged departs 3 c t

/-- What the departure of a station makes of the send queue and the fetch slots: in MEMBER the slots whose cell it owned fail and the cells
yielded to it get their JOIN triggers, in ascending order, the one before the other as chosen; in other states nothing (R59, R99, R135). -/
def QueueAtDeparture (st : Station) (fetchFirst : Bool) (s t : State) : Prop :=
  let departs (c : CellNo) := (s.cell c).owner = st
  let regained := s.cellsWhere fun r => r.eff == .yielded && r.owner == st
  (s.node ≠ .member → t.sendQueue = s.sendQueue ∧ t.slots = s.slots)
  ∧ (s.node = .member → fetchFirst = true →
      ∃ u, FetchesJudged departs s u ∧ t.slots = u.slots ∧ TriggeredAll .join regained u.sendQueue t.sendQueue)
  ∧ (s.node = .member → fetchFirst = false →
      ∃ u, u.slots = s.slots ∧ TriggeredAll .join regained s.sendQueue u.sendQueue ∧ FetchesJudged departs u t)

end Sys2Proof.Machine
end

