-- ==== Sys2Proof/Certificates/Slice0/Obligations.lean ====
section
/-! DEFINITION. The statements for the provers, from the numbered rules of spec/. In all of them `Live` says that RESET is high and that no
notice of an earlier step is still on its way to the queue, `Asked` that a request may be made as well, and `Ready` that the node is not
LOADING either. -/

open Sys2Proof Sys2Proof.Machine

/-! ## The queue of commands, reset and start-up -/

/-- Step of a state with a command at the front of its queue is the command's meaning on the state with the queue's rest. -/
def Obligations.StepRunsTheFrontCommand : Prop :=
  ∀ (c : Instr) (rest : List Instr) (s : State), step (s.setPending (c :: rest)) = exec c (s.setPending rest)

/-- The model's own choice (logs 3, 4, 14, 32 and 35): on an empty queue nothing happens where the Cycle Unit is stopped; where it runs, no timer
reaches its limit, and no own frame comes to its over-run with a transmit path that may have stopped, the running timers advance by one unit, a
veto goes on, and so does the time at the line. As time passes a due veto counts down to its first symbol; there it is driven for eight symbols
and counted in VETOES if the node may then still veto, and dropped if not; a driven one ends with its eighth symbol. Outside the fields of a frame,
two symbol times after the last symbol counted, the run of dominant symbols is 0, for a recessive symbol has come between. -/
def Obligations.EmptyQueueLetsTimePass : Prop :=
  (∀ s : State, Live s → s.pending = [] →
    (s.onLine = false → step s = .next s)
    ∧ (s.onLine = true →
        (s.cycle.synced = true → s.cycle.markTimer + 1 < 3 * s.loader.params.periodUnits) →
        ((s.cycle.synced = false ∨ s.cycle.lead = true) → s.cycle.cycleTimer + 1 < s.loader.params.periodUnits) →
        (∀ n, s.cycle.takeover = some n → n + 1 < s.loader.params.takeoverUnits) →
        (s.line.track = .sending → s.line.stall = none
          ∧ (s.line.elapsed + 1 < 240 * 2 ^ (4 - s.loader.params.rateCode)
              ∨ s.line.guardPlace * 2 ^ (4 - s.loader.params.rateCode) ≤ s.line.elapsed + 1)) →
        step s = .next ((passVeto 1 (passSymbols 1 s)).setCycle { s.cycle with
          cycleTimer := s.cycle.cycleTimer + 1
          markTimer := s.cycle.markTimer + 1
          takeover := s.cycle.takeover.map (· + 1) })))
  ∧ ∀ (s : State) (n : Nat),
    passSymbols n s = s.setLine { s.line with
      elapsed := s.line.elapsed + n
      dominantRun := if (s.line.track = .none ∨ s.line.track = .trailing)
          ∧ 2 * 2 ^ (4 - s.loader.params.rateCode) ≤ s.line.elapsed + n then 0
        else s.line.dominantRun }
    ∧ (s.line.vetoDue = none → (∀ left, s.line.driver ≠ .veto left) → passVeto n s = s)
    ∧ (∀ left, s.line.vetoDue = none → s.line.driver = .veto left →
        passVeto n s = s.setLine { s.line with driver := if left ≤ n then .released else .veto (left - n) })
    ∧ (∀ due, s.line.vetoDue = some due → n < due → passVeto n s = s.setLine { s.line with vetoDue := some (due - n) })
    ∧ (∀ due, s.line.vetoDue = some due → due ≤ n → s.mayVeto = true →
        passVeto n s = (s.setCounters (bump 4 1 s.counters)).setLine { s.line with
          driver := if 8 * 2 ^ (4 - s.loader.params.rateCode) ≤ n - due then .released
            else .veto (8 * 2 ^ (4 - s.loader.params.rateCode) - (n - due))
          vetoDue := none
          idleRun := 0
          dominantRun := 0 })
    ∧ (∀ due, s.line.vetoDue = some due → due ≤ n → s.mayVeto = false → (∀ left, s.line.driver ≠ .veto left) →
        passVeto n s = s.setLine { s.line with vetoDue := none })

/-- Every command answers a next state and leaves the queue of commands alone; only a reset and the rise of PSEL change what PSEL holds; an
event of the line or of the node's own timing leaves the response, the configuration and the configured part of every cell alone (log 6). -/
def Obligations.EveryCommandAnswersAndKeepsTheQueue : Prop :=
  ∀ (c : Instr) (s : State), ∃ t, exec c s = .next t ∧ t.pending = s.pending
    ∧ (c ≠ .hardReset → (∀ levels, c ≠ .resetRelease levels) → c ≠ .transactionAbort → t.pselHeld = s.pselHeld)
    ∧ (requestBytes c = none → c ≠ .hardReset → (∀ levels, c ≠ .resetRelease levels) → (∀ levels rest, c ≠ .preloadEnd levels rest) →
        t.port = s.port ∧ t.inReset = s.inReset ∧ t.loader = s.loader ∧ t.cells.map CellRecord.cfg = s.cells.map CellRecord.cfg)

/-- HARD_RESET, from every state: every block takes its reset values; the driver, MSEL and ATTN are inactive. While RESET is low no
command but the release of RESET changes anything. MDAT is released. That no veto is due and no read request has been sent is log 21. -/
def Obligations.HardResetGivesResetValues : Prop :=
  (∀ s : State, ∃ t, exec .hardReset s = .next t ∧ t.inReset = true ∧ t.pending = s.pending ∧ RuntimeAtReset t ∧ ConfigurationAtReset t
      ∧ ∀ i, mdatLevel t.loader.mdatSent i = none)
    ∧ ∀ (c : Instr) (s : State), s.inReset = true → c ≠ .hardReset → (∀ levels, c ≠ .resetRelease levels) → exec c s = .next s

/-- RESET_RELEASE: the straps are sampled, STLOAD chooses LOADING with the preload begun and its read request sent on MDAT, 2Eh 00h 00h, each byte
most significant bit first, after which MDAT is released, or CONFIG; a PSEL low already is held; the rest is at its reset values. That a PSEL low
then is held as a flag is log 23; that no veto is due, and that without STLOAD no read request has been sent, is log 21. -/
def Obligations.ResetReleaseSamplesTheStraps : Prop :=
  ∀ (s : State) (levels : ReleaseLevels), s.inReset = true →
    ∃ t, exec (.resetRelease levels) s = .next t ∧ t.inReset = false ∧ t.pselHeld = levels.pselLow ∧ t.pending = s.pending
      ∧ t.loader.straps = levels.straps
      ∧ t.node = (if levels.straps.stload then .loading else .config) ∧ t.loader.msel = levels.straps.stload
      ∧ t.loader.mdatSent = (if levels.straps.stload then [0x2E, 0x00, 0x00] else [])
      ∧ (∀ i, mdatLevel t.loader.mdatSent i = if levels.straps.stload ∧ i < 24 then some ((0x2E0000#24).getMsbD i) else none)
      ∧ RuntimeAtReset t ∧ ConfigurationAtReset (t.setLoader { t.loader with msel := false, mdatSent := [] })

/-- PRELOAD_END in LOADING: NO_MEMORY and BAD_CHECK keep the store and enter CONFIG; GOOD writes the store, and a JOIN follows under
STJOIN with the station number set. Without the signature the outcome is NO_MEMORY. With it, it is GOOD where the cell count is at most 256,
the check is right, every parameter and every record is in range and no cell number comes twice, and then the parameters and the records are
those at their places in the memory, the masks as in the store; and it is BAD_CHECK in every other case. The memory's bytes are made of the
levels sampled on MDAT after the read request, eight to a byte, most significant bit first; beyond them MDAT reads as the level it rests at
(log 15). -/
def Obligations.PreloadEndsAtOneOfThreeOutcomes : Prop :=
  (∀ (s : State) (levels : List Level) (rest : Level), Live s → s.node = .loading →
    ∃ t, exec (.preloadEnd levels rest) s = .next t ∧ t.loader.msel = false ∧ t.loader.mdatSent = [] ∧ t.port = s.port
      ∧ (preload levels rest s.loader.params = .noMemory →
          t.loader.loadStatus = .noMemory ∧ t.node = .config ∧ ChangesOnly [.loader, .membership, .node] s t)
      ∧ (preload levels rest s.loader.params = .badCheck →
          t.loader.loadStatus = .badCheck ∧ t.node = .config ∧ ChangesOnly [.loader, .membership, .node] s t)
      ∧ (∀ p records, preload levels rest s.loader.params = .good p records →
          t.loader.loadStatus = .good ∧ t.loader.params = p
            ∧ t.cells = records.foldl (fun cs r => cs.set r.1.toNat (CellRecord.fresh p.station r.2)) s.cells
            ∧ t.membership.roster = rosterReset p.station
            ∧ t.node = (if s.loader.straps.stjoin ∧ p.station ≠ 0 then .listening else .config)
            ∧ (t.node = .listening → t.loader.frozen = true)))
  ∧ (∀ (levels : List Level) (rest : Level) (i : Nat) (k : Fin 8),
    (memByte levels rest i).getMsbD k.val = levels.getD (8 * i + k.val) rest)
  ∧ (∀ (bytes : List Byte) (rest : Level) (i : Nat), i < bytes.length → memByte (bytes.flatMap bitsOf) rest i = bytes.getD i 0)
  ∧ ∀ (levels : List Level) (rest : Level) (store : Params),
    let b := memByte levels rest
    let one (i : Nat) := (b i).toNat
    let two (i : Nat) := 256 * one i + one (i + 1)
    let count := two 26
    let checkRight := (crcBytes ((List.range (26 + 6 * count)).map fun i => b (i + 2))).toNat = two (28 + 6 * count)
    let inRange := one 2 ≤ 31 ∧ one 3 ≤ 4 ∧ 10 ≤ two 4 ∧ 1 ≤ one 6 ∧ one 6 ≤ 16 ∧ one 7 ≤ 1 ∧ 64 ≤ two 8 ∧ two 8 ≤ 1024 ∧ 2 ≤ one 10
      ∧ one 10 ≤ 16 ∧ one 11 ≤ 7 ∧ one 12 ≤ 1 ∧ 1 ≤ one 13 ∧ one 13 ≤ 16 ∧ 1 ≤ one 14 ∧ one 14 ≤ 3 ∧ one 15 ≤ 1 ∧ one 16 ≤ 1 ∧ one 17 ≤ 1
    let cell (i : Nat) : CellNo := b (28 + 6 * i)
    let record (i : Nat) := cellConfigOf (value40 (b (29 + 6 * i)) (b (30 + 6 * i)) (b (31 + 6 * i)) (b (32 + 6 * i)) (b (33 + 6 * i)))
    let good := checkRight ∧ inRange ∧ (∀ i < count, record i ≠ none) ∧ ∀ i j, i < j → j < count → cell i ≠ cell j
    ((b 0 ≠ 0xA5#8 ∨ b 1 ≠ 0x3C#8) → preload levels rest store = .noMemory)
    ∧ (b 0 = 0xA5#8 → b 1 = 0x3C#8 →
        (256 < count → preload levels rest store = .badCheck)
        ∧ (count ≤ 256 → ¬good → preload levels rest store = .badCheck)
        ∧ (count ≤ 256 → good → ∃ records, records.length = count
            ∧ (∀ i < count, ∃ cfg, record i = some cfg ∧ records[i]? = some (cell i, cfg))
            ∧ preload levels rest store = .good { store with
                station := (b 2).setWidth 5
                rateCode := one 3
                period := two 4
                presenceInterval := one 6
                leadEligible := b 7 == 1
                takeoverStep := two 8
                listenWindow := one 10
                retryLimit := one 11
                sendOrder := if b 12 = 0 then .key else .arrival
                fetchTimeout := one 13
                fetchTries := one 14
                autoRecovery := b 15 == 1
                noticeOverflow := if b 16 = 0 then .keepOld else .keepNew
                snapshotPolicy := if b 17 = 0 then .keepNewest else .keepFirst
                thrSendFaults := two 18
                thrReceiveFaults := two 20
                thrMissedVersions := two 22
                thrOwnerClashes := two 24 } records))

/-- A transaction whose bytes end before the last operand byte is a TRANSACTION_ABORT, which has no effect but that a PSEL low since before
RESET rose is low no longer; until then no request is taken. -/
def Obligations.ShortTransactionsHaveNoEffect : Prop :=
  (∀ s : State, s.inReset = true ∨ s.pselHeld = false → exec .transactionAbort s = .next s)
    ∧ (∀ s : State, s.inReset = false → exec .transactionAbort s = .next (s.setPselHeld false))
    ∧ (∀ (c : Instr) (s : State), Live s → s.pselHeld = true → requestBytes c ≠ none → exec c s = .next s)
    ∧ (∀ ties, commandOf ties [] = .transactionAbort)
    ∧ (∀ ties (code : Byte), code.toNat ∈ [33, 35, 36, 50, 98, 99, 34, 81, 82] → commandOf ties [code] = .transactionAbort)
    ∧ (∀ ties (c : Byte), commandOf ties [34, c] = .transactionAbort)
    ∧ (∀ ties (c n : Byte) (vs : List Byte), n.toNat ≤ 16 → vs.length < n.toNat →
        commandOf ties (34 :: c :: n :: vs) = .transactionAbort)
    ∧ (∀ ties (p : Byte) (vs : List Byte), vs.length < 5 → commandOf ties (81 :: p :: vs) = .transactionAbort
        ∧ commandOf ties (82 :: p :: vs) = .transactionAbort)

/-- UNKNOWN: a code byte that names no request is answered with status 13 alone. In LOADING every request but RDSTAT is answered BUSY
and changes nothing. -/
def Obligations.UnknownAndBusyAnswers : Prop :=
  (∀ (s : State) (code : Byte), Ready s → namesRequest code = false →
    exec (.unknown code) s = .next (s.setPort ⟨[13]⟩) ∧ ∀ ties extra, commandOf ties (code :: extra) = .unknown code)
  ∧ ∀ (c : Instr) (s : State), Asked s → s.node = .loading → c.wellFormed = true → requestBytes c ≠ none → c ≠ .rdstat →
    exec c s = .next (s.setPort ⟨[2]⟩)

/-! ## Requests -/

/-- CANCEL, by what the Send Queue holds for the cell: an entry in flight, a waiting entry, a deferred place, a fetch slot that waits for
a place, or nothing. In MEMBER the place of a waiting entry that leaves goes to one that waits for it, and the other entries stay as they
were; a deferred place that leaves is no other's. -/
def Obligations.CancelDecidesByTheQueue : Prop :=
  ∀ (s : State) (c : CellNo), Ready s → SlotsSound s →
    (s.sendQueue.has c = true → s.sendQueue.flies c = true →
      exec (.cancel c) s = .next ((s.setSendQueue (s.sendQueue.update c fun e => { e with cancelRequested := true })).setPort ⟨[11]⟩))
    ∧ (s.sendQueue.has c = true → s.sendQueue.flies c = false → s.sendQueue.defers c = false →
        ∃ t, exec (.cancel c) s = .next t ∧ t.port = ⟨[0]⟩ ∧ t.sendQueue.has c = false ∧ ChangesOnly [.sendQueue, .slots, .port] s t
          ∧ (∀ i, s.slotHolding c = some i → (s.slot i).state = .requesting → t.slots = s.slots.set i ⟨.free, 0, 0, 0⟩)
          ∧ ((∀ i, s.slotHolding c = some i → (s.slot i).state = .awaiting) → t.slots = s.slots)
          ∧ (QueueSound s → s.node = .member → PlaceGiven c s t)
          ∧ (s.node ≠ .member → t.sendQueue = { s.sendQueue with entries := s.sendQueue.entries.filter (·.cell != c) }))
    ∧ (s.sendQueue.has c = false → s.sendQueue.defers c = true →
        ∃ t, exec (.cancel c) s = .next t ∧ t.port = ⟨[0]⟩ ∧ t.sendQueue.defers c = false
          ∧ t.sendQueue = { s.sendQueue with deferred := s.sendQueue.deferred.filter (·.1 != c) } ∧ ChangesOnly [.sendQueue, .port] s t)
    ∧ (s.sendQueue.has c = false → s.sendQueue.defers c = false → ∀ i, s.slotHolding c = some i → (s.slot i).state = .requesting →
        exec (.cancel c) s = .next ((s.setSlots (s.slots.set i ⟨.free, 0, 0, 0⟩)).setPort ⟨[0]⟩))
    ∧ (s.sendQueue.has c = false → s.sendQueue.defers c = false →
        (∀ i, s.slotHolding c = some i → (s.slot i).state = .awaiting) → exec (.cancel c) s = .next (s.setPort ⟨[10]⟩))

/-- CFGNODE: LOCKED under STLOCK; REFUSED outside CONFIG without it; in CONFIG the parameter takes the value, a change of the station
number moves SELF and the owners, and ATTN is judged again; BAD_OPERAND out of range. -/
def Obligations.CfgnodeSetsOneParameter : Prop :=
  ∀ (s : State) (n : Byte) (v : BitVec 40), Ready s → ShapeSound s →
    (s.loader.straps.stlock = true → exec (.cfgnode n v) s = .next (s.setPort ⟨[4]⟩))
    ∧ (s.loader.straps.stlock = false → s.node ≠ .config → exec (.cfgnode n v) s = .next (s.setPort ⟨[3]⟩))
    ∧ (s.loader.straps.stlock = false → s.node = .config →
        (s.loader.params.set n.toNat v = none → exec (.cfgnode n v) s = .next (s.setPort ⟨[6]⟩))
        ∧ (∀ p, s.loader.params.set n.toNat v = some p →
            ∃ t, exec (.cfgnode n v) s = .next t ∧ t.port = ⟨[0]⟩ ∧ t.loader = { s.loader with params := p }
              ∧ t.notices = { s.notices with attn := attnOf p s.notices.list s.notices.overflow }
              ∧ ChangesOnly [.loader, .params, .membership, .cells, .notices, .posted, .port] s t
              ∧ (p.station = s.own → t.cells = s.cells ∧ t.membership = s.membership)
              ∧ (p.station ≠ s.own →
                  t.cells = s.cells.map (fun r => if r.eff = .own then { r with owner := p.station } else r)
                    ∧ (p.station ≠ 0 → t.entry p.station = RosterEntry.own) ∧ (s.own ≠ 0 → t.entry s.own = RosterEntry.reset))))

/-- CFGCELL: LOCKED under STLOCK; REFUSED outside CONFIG without it; in CONFIG the configured part is replaced whole and the runtime part
takes its reset values; an out-of-range record gives BAD_OPERAND. -/
def Obligations.CfgcellReplacesTheRecord : Prop :=
  ∀ (s : State) (c : CellNo) (record : BitVec 40), Ready s → ShapeSound s →
    (s.loader.straps.stlock = true → exec (.cfgcell c record) s = .next (s.setPort ⟨[4]⟩))
    ∧ (s.loader.straps.stlock = false → s.node ≠ .config → exec (.cfgcell c record) s = .next (s.setPort ⟨[3]⟩))
    ∧ (s.loader.straps.stlock = false → s.node = .config →
        (cellConfigOf record = none → exec (.cfgcell c record) s = .next (s.setPort ⟨[6]⟩))
        ∧ (∀ cfg, cellConfigOf record = some cfg →
            ∃ t, exec (.cfgcell c record) s = .next t ∧ t.port = ⟨[0]⟩ ∧ ChangesOnly [.cells, .port] s t
              ∧ t.cell c = ⟨cfg, cfg.role.effective, List.replicate cfg.length 0, 0, if cfg.role = .own then s.own else 0, .never, 0, 0,
                  false, false, 0⟩
              ∧ ∀ d, d ≠ c → t.cell d = s.cell d))

/-- The ranges of configuration. CFGNODE: each parameter number with its range, and the parameter that takes the value. A cell record:
of its 40 bits every one with its fields in range reads back as those fields, and one with a field out of range, or bit 32 set, is none. -/
def Obligations.ConfigurationRanges : Prop :=
  (∀ (p : Params) (number : Nat) (v : BitVec 40),
    (p.set number v).isSome = true ↔
      ∃ row ∈ [(0, 0, 31), (1, 0, 4), (2, 10, 65535), (3, 1, 16), (4, 0, 1), (5, 64, 1024), (6, 2, 16), (7, 0, 7), (8, 0, 1), (9, 1, 16),
          (10, 1, 3), (11, 0, 1), (12, 0, 1), (13, 0, 2 ^ 34 - 1), (14, 0, 2 ^ 35 - 1), (15, 0, 1), (16, 0, 65535), (17, 0, 65535),
          (18, 0, 65535), (19, 0, 65535)],
        row.1 = number ∧ row.2.1 ≤ v.toNat ∧ v.toNat ≤ row.2.2)
  ∧ (∀ (p q : Params) (v : BitVec 40),
    (p.set 0 v = some q → q = { p with station := v.setWidth 5 })
    ∧ (p.set 1 v = some q → q = { p with rateCode := v.toNat })
    ∧ (p.set 2 v = some q → q = { p with period := v.toNat })
    ∧ (p.set 3 v = some q → q = { p with presenceInterval := v.toNat })
    ∧ (p.set 4 v = some q → q = { p with leadEligible := v == 1 })
    ∧ (p.set 5 v = some q → q = { p with takeoverStep := v.toNat })
    ∧ (p.set 6 v = some q → q = { p with listenWindow := v.toNat })
    ∧ (p.set 7 v = some q → q = { p with retryLimit := v.toNat })
    ∧ (p.set 8 v = some q → q = { p with sendOrder := if v = 0 then .key else .arrival })
    ∧ (p.set 9 v = some q → q = { p with fetchTimeout := v.toNat })
    ∧ (p.set 10 v = some q → q = { p with fetchTries := v.toNat })
    ∧ (p.set 11 v = some q → q = { p with autoRecovery := v == 1 })
    ∧ (p.set 12 v = some q → q = { p with noticeOverflow := if v = 0 then .keepOld else .keepNew })
    ∧ (p.set 13 v = some q → q = { p with recordMask := v.setWidth 34 })
    ∧ (p.set 14 v = some q → q = { p with signalMask := v.setWidth 35 })
    ∧ (p.set 15 v = some q → q = { p with snapshotPolicy := if v = 0 then .keepNewest else .keepFirst })
    ∧ (p.set 16 v = some q → q = { p with thrSendFaults := v.toNat })
    ∧ (p.set 17 v = some q → q = { p with thrReceiveFaults := v.toNat })
    ∧ (p.set 18 v = some q → q = { p with thrMissedVersions := v.toNat })
    ∧ (p.set 19 v = some q → q = { p with thrOwnerClashes := v.toNat }))
  ∧ ∀ (roleCode cls policyCode snap spare len k ph g e : Nat),
    roleCode < 4 → cls < 4 → policyCode < 4 → snap < 2 → spare < 2 → len < 32 → k < 128 → ph < 64 → g < 128 → e < 128 →
    let record := BitVec.ofNat 40 (roleCode * 2 ^ 38 + cls * 2 ^ 36 + policyCode * 2 ^ 34 + snap * 2 ^ 33 + spare * 2 ^ 32 + len * 2 ^ 27
      + k * 2 ^ 20 + ph * 2 ^ 14 + g * 2 ^ 7 + e)
    (∀ role policy, (roleCode, role) ∈ [(0, Role.unused), (1, .own), (2, .follow)] →
      (policyCode, policy) ∈ [(0, Policy.cyclic), (1, .onChange), (2, .onRequest)] →
      1 ≤ cls → spare = 0 → len ≤ 16 → 1 ≤ k → k ≤ 64 → ph < k → g ≤ 64 → e ≤ 64 →
      cellConfigOf record = some ⟨role, BitVec.ofNat 2 cls, len, snap = 1, policy, k, ph, g, e⟩)
    ∧ ((roleCode = 3 ∨ cls = 0 ∨ policyCode = 3 ∨ spare = 1 ∨ 16 < len ∨ k = 0 ∨ 64 < k ∨ k ≤ ph ∨ 64 < g ∨ 64 < e) →
      cellConfigOf record = none)

/-- JOIN: code 17; OK and LISTENING from CONFIG and DETACHED with the station number set, the configuration frozen and the digest computed
in CONFIG; NO_STATION without a station number; REFUSED elsewhere; BUSY in LOADING; the JOIN of STJOIN makes no response. -/
def Obligations.JoinRequest : Prop :=
  (∀ ties extra, commandOf ties (17 :: extra) = .join)
  ∧ (∀ s : State, Asked s →
      (s.node = .loading → exec .join s = .next (s.setPort ⟨[2]⟩))
      ∧ ((s.node = .config ∨ s.node = .detached) → s.own ≠ 0 →
          ∃ t, exec .join s = .next t ∧ t.node = .listening ∧ t.port = ⟨[0, 2]⟩
            ∧ (s.node = .config → FrozenSound s →
                t.loader = { s.loader with
                  frozen := true
                  digest := crcBytes ([byte s.loader.params.rateCode] ++ bytes2 s.loader.params.period
                    ++ [byte s.loader.params.presenceInterval] ++ bytes2 s.loader.params.takeoverStep) })
            ∧ (s.loader.frozen = true → t.loader = s.loader))
      ∧ ((s.node = .config ∨ s.node = .detached) → s.own = 0 → exec .join s = .next (s.setPort ⟨[5, byte s.node.code]⟩))
      ∧ (s.node ≠ .loading → s.node ≠ .config → s.node ≠ .detached → exec .join s = .next (s.setPort ⟨[3, byte s.node.code]⟩)))
  ∧ (∀ (s t : State) levels rest, exec (.preloadEnd levels rest) s = .next t → t.port = s.port)

/-- JOIN's entry to LISTENING: tallies 0, the receiver on with the line BUSY, the Cycle Unit started with its number kept. -/
def Obligations.JoinStartsListening : Prop :=
  ∀ s : State, Ready s → (s.node = .config ∨ s.node = .detached) → s.own ≠ 0 →
    ∃ t, exec .join s = .next t ∧ t.node = .listening ∧ t.membership.markTally = 0 ∧ t.membership.startTally = 0
      ∧ t.line.lineState = .busy ∧ t.line.track = .none ∧ t.line.idleRun = 0 ∧ t.line.dominantRun = 0
      ∧ t.cycle.number = s.cycle.number ∧ t.cycle.cycleTimer = 0 ∧ t.cycle.markTimer = 0 ∧ t.cycle.synced = false
      ∧ t.cycle.lead = false ∧ t.cycle.mark = .empty ∧ t.cycle.takeover = none
      ∧ ChangesOnly [.loader, .membership, .node, .line, .cycle, .clock, .lead, .port] s t
      ∧ t.membership.roster = s.membership.roster

/-- REJOIN: code 18; OK and LISTENING in CUT_OFF once the standing is ACTIVE or GUARDED; REFUSED, with nothing changed, in CUT_OFF with
standing SILENT and in every other state; BUSY in LOADING; the response carries the node state. -/
def Obligations.RejoinRequest : Prop :=
  (∀ ties extra, commandOf ties (18 :: extra) = .rejoin)
  ∧ (∀ s : State, Asked s →
      (s.node = .loading → exec .rejoin s = .next (s.setPort ⟨[2]⟩))
      ∧ (s.node = .cutOff → s.standingUnit.standing ≠ .silent →
          exec .rejoin s = .next ((s.setMembership
            { s.membership with node := .listening, markTally := 0, startTally := 0 }).setPort ⟨[0, 2]⟩))
      ∧ (s.node = .cutOff → s.standingUnit.standing = .silent → exec .rejoin s = .next (s.setPort ⟨[3, 5]⟩))
      ∧ (s.node ≠ .loading → s.node ≠ .cutOff → exec .rejoin s = .next (s.setPort ⟨[3, byte s.node.code]⟩)))

/-- DETACH: code 19; from MEMBER to LEAVING with the lead dropped, the slots free, the queue flushed but for the frame in flight; from
LISTENING to DETACHED; REFUSED elsewhere; BUSY in LOADING; the response carries the node state. -/
def Obligations.DetachLeavesTheLine : Prop :=
  (∀ ties extra, commandOf ties (19 :: extra) = .detach ties)
  ∧ (∀ (s : State) (ties : Ties), Asked s → s.node = .loading → exec (.detach ties) s = .next (s.setPort ⟨[2]⟩))
  ∧ ∀ (s : State) (ties : Ties), Ready s → ShapeSound s →
    (s.node = .member →
      ∃ t, exec (.detach ties) s = .next t ∧ t.node = .leaving ∧ t.port = ⟨[0, 4]⟩ ∧ t.cycle.lead = false ∧ t.cycle.takeover = none
        ∧ t.cycle.mark ≠ .waiting ∧ (∀ f ∈ t.slots, f.inUse = false)
        ∧ t.sendQueue.entries = s.sendQueue.entries.filter (fun e => s.sendQueue.flies e.cell) ∧ t.sendQueue.deferred = []
        ∧ t.sendQueue.inFlight = s.sendQueue.inFlight ∧ t.cells = s.cells.map (fun r => { r with changed := false })
        ∧ t.membership.roster = s.membership.roster
        ∧ (s.inFlightIs .presence = false → t.membership.presence.filled = true ∧ t.membership.presence.leaving = true
            ∧ t.membership.presence.attempts = 0)
        ∧ (s.inFlightIs .presence = true → t.membership.presence = s.membership.presence)
        ∧ ChangesOnly [.membership, .node, .cycle, .lead, .cells, .sendQueue, .slots, .counters, .notices, .posted, .port] s t)
    ∧ (s.node = .listening →
      ∃ t, exec (.detach ties) s = .next t ∧ t.node = .detached ∧ t.port = ⟨[0, 6]⟩ ∧ t.cycle.synced = false ∧ t.cycle.lead = false
        ∧ t.cycle.number = s.cycle.number ∧ t.line.driver = .released ∧ t.line.lineState = .busy
        ∧ t.sendQueue.entries = [] ∧ t.sendQueue.deferred = [] ∧ t.sendQueue.inFlight = none
        ∧ (∀ e ∈ t.membership.roster, e.state = .absent ∧ e.silence = 0 ∨ e.state = .self)
        ∧ (∀ r ∈ t.cells, r.eff ≠ .yielded ∧ (r.eff = .follow → r.freshness = .never ∨ r.freshness = .lost))
        ∧ t.standingUnit = s.standingUnit ∧ t.snapshots = s.snapshots ∧ t.loader = s.loader ∧ t.counters.take 7 = s.counters.take 7)
    ∧ (s.node ≠ .member → s.node ≠ .listening → exec (.detach ties) s = .next (s.setPort ⟨[3, byte s.node.code]⟩))

/-- RESTART: CONFIG with the configuration kept and unfrozen, every runtime value at its reset value. That no veto is due is log 21. -/
def Obligations.RestartReturnsToConfig : Prop :=
  ∀ s : State, Ready s →
    ∃ t, exec .restart s = .next t ∧ t.port = ⟨[0, 1]⟩ ∧ t.node = .config ∧ RuntimeAtReset t ∧ t.pending = s.pending
      ∧ t.inReset = false ∧ t.loader = { s.loader with frozen := false, digest := 0 } ∧ t.membership.roster = rosterReset s.own
      ∧ t.cells = s.cells.map (fun r => ⟨r.cfg, r.cfg.role.effective, List.replicate r.cfg.length 0, 0,
          if r.cfg.role = .own then s.own else 0, .never, 0, 0, false, false, 0⟩)

/-- FETCH: the checks in their order, each with its status, and the beginning of the fetch in the lowest FREE slot. -/
def Obligations.FetchChecksInOrder : Prop :=
  ∀ (s : State) (c : CellNo), Ready s →
    (s.node ≠ .member → exec (.fetch c) s = .next (s.setPort ⟨[3]⟩))
    ∧ (s.node = .member → (s.cell c).eff ≠ .follow → exec (.fetch c) s = .next (s.setPort ⟨[7]⟩))
    ∧ (s.node = .member → (s.cell c).eff = .follow → ((s.cell c).owner = 0 ∨ (s.entry (s.cell c).owner).state ≠ .present) →
        exec (.fetch c) s = .next (s.setPort ⟨[8]⟩))
    ∧ (s.node = .member → (s.cell c).eff = .follow → (s.cell c).owner ≠ 0 → (s.entry (s.cell c).owner).state = .present →
        (∀ i, s.slotHolding c = some i → exec (.fetch c) s = .next (s.setPort ⟨[1, byte i]⟩))
        ∧ (s.slotHolding c = none → (∀ f ∈ s.slots, f.state ≠ .free) → exec (.fetch c) s = .next (s.setPort ⟨[9]⟩))
        ∧ (s.slotHolding c = none → ∀ i, i < s.slots.length → (s.slot i).state = .free → (∀ j < i, (s.slot j).state ≠ .free) →
            ∃ t, exec (.fetch c) s = .next t ∧ t.port = ⟨[1, byte i]⟩ ∧ t.slots = s.slots.set i ⟨.requesting, c, 1, 0⟩
              ∧ ChangesOnly [.slots, .sendQueue, .port] s t
              ∧ (s.sendQueue.has c = false → s.sendQueue.entries.length < 16 →
                  t.sendQueue = { s.sendQueue with
                    entries := s.sendQueue.entries ++ [⟨.fetch, c, .request, 0, s.sendQueue.nextArrival, false⟩]
                    nextArrival := s.sendQueue.nextArrival + 1 })
              ∧ (s.sendQueue.has c = false → 16 ≤ s.sendQueue.entries.length → t.sendQueue = s.sendQueue)
              ∧ (s.sendQueue.has c = true → t.sendQueue = { s.sendQueue with
                  entries := s.sendQueue.entries.map fun e => if e.cell = c then { e with cancelRequested := false } else e })))

/-- NOTAKE: code 65; the oldest record is removed and returned with the number left, and ATTN follows; EMPTY on an empty list; BUSY in
LOADING. -/
def Obligations.NotakeTakesTheOldest : Prop :=
  (∀ ties extra, commandOf ties (65 :: extra) = .notake)
  ∧ (∀ s : State, Asked s → s.node = .loading → exec .notake s = .next (s.setPort ⟨[2]⟩))
  ∧ ∀ s : State, Ready s →
    (s.notices.list = [] → exec .notake s = .next (s.setPort ⟨[12]⟩))
    ∧ (∀ n rest, s.notices.list = n :: rest →
        exec .notake s = .next ((s.setNotices { s.notices with list := rest, attn := attnOf s.loader.params rest s.notices.overflow }).setPort
          ⟨[0, byte n.kind.code, byte (flag n.cell.isSome), n.cell.getD 0, byte n.station.toNat] ++ bytes2 n.stamp.toNat
            ++ [n.detail, byte rest.length]⟩))

/-- RDCNT: code 98; the thirteen counters in order as 26 bytes; flag 1 clears them all; another flag gives BAD_OPERAND; nothing else is
touched. -/
def Obligations.RdcntReadsAndClears : Prop :=
  (∀ ties (f : Byte) extra, commandOf ties (98 :: f :: extra) = .rdcnt f)
  ∧ (∀ s : State, Asked s → s.node = .loading → ∀ f, exec (.rdcnt f) s = .next (s.setPort ⟨[2]⟩))
  ∧ (∀ s : State, Ready s → CountersSound s →
      (s.counters.flatMap bytes2).length = 26
      ∧ exec (.rdcnt 0) s = .next (s.setPort ⟨0 :: s.counters.flatMap bytes2⟩)
      ∧ exec (.rdcnt 1) s = .next ((s.setCounters (List.replicate 13 0)).setPort ⟨0 :: s.counters.flatMap bytes2⟩)
      ∧ ∀ f : Byte, f ≠ 0 → f ≠ 1 → exec (.rdcnt f) s = .next (s.setPort ⟨[6]⟩))

/-- RDSTAT, in every node state: fifteen response bytes; then the sticky flags and the overflow flag are clear, SYNC_HELD is armed from
the sync state and ATTN is judged again. -/
def Obligations.RdstatReadsAndClearsTheStickyFlags : Prop :=
  ∀ s : State, Asked s →
    exec .rdstat s = .next ((((s.setStandingUnit { s.standingUnit with highErrorSeen := false, lineStuckSeen := false }).setCycle
      { s.cycle with syncHeld := s.cycle.synced }).setNotices
      { s.notices with overflow := false, attn := attnOf s.loader.params s.notices.list false }).setPort
      ⟨[0, byte s.node.code, byte s.standingUnit.standing.code, byte s.standingUnit.sendFaults, byte s.standingUnit.recvFaults,
        byte (s.cycle.lead.toNat + 2 * s.cycle.synced.toNat), byte (s.cycle.number.toNat / 256), byte s.cycle.number.toNat,
        byte s.sendQueue.entries.length, byte (s.sendQueue.deferred.length / 256), byte s.sendQueue.deferred.length,
        byte (s.slots.countP fun f => f.state ≠ .free), byte s.notices.list.length, byte s.loader.loadStatus.code,
        byte (s.standingUnit.highErrorSeen.toNat + 2 * s.standingUnit.lineStuckSeen.toNat + 4 * s.cycle.syncHeld.toNat
          + 8 * s.notices.overflow.toNat)]⟩)

/-- RDCELL and RDROST change nothing but the response: the record of a cell with OK or PENDING, a Roster entry or the node's own values,
BAD_OPERAND for a station of 0 or above 31. -/
def Obligations.CellAndRosterReads : Prop :=
  ∀ s : State, Ready s →
    (∀ c : CellNo, exec (.rdcell c) s = .next (s.setPort
      ⟨[if (s.slotHolding c).isSome then 1 else 0, byte (s.cell c).eff.code, byte (s.cell c).cfg.length, (s.cell c).version,
        byte (s.cell c).owner.toNat, byte (s.cell c).freshness.code, byte (s.cell c).age, byte ((s.cell c).takeCycle.toNat / 256),
        byte (s.cell c).takeCycle.toNat] ++ (s.cell c).value⟩))
    ∧ (∀ st : Byte, (st = 0 ∨ 31 < st.toNat) → exec (.rdrost st) s = .next (s.setPort ⟨[6]⟩))
    ∧ (∀ st : Station, st ≠ 0 → (s.entry st).state = .self → exec (.rdrost (st.setWidth 8)) s = .next (s.setPort
        ⟨[0, 3, 0, byte (s.loader.digest.toNat / 256), byte s.loader.digest.toNat, byte s.standingUnit.standing.code,
          byte s.loader.params.leadEligible.toNat, byte s.cycle.lead.toNat]⟩))
    ∧ (∀ st : Station, st ≠ 0 → (s.entry st).state ≠ .self → exec (.rdrost (st.setWidth 8)) s = .next (s.setPort
        ⟨[0, byte (s.entry st).state.code, byte (s.entry st).silence, byte ((s.entry st).digest.toNat / 256),
          byte (s.entry st).digest.toNat, byte (s.entry st).standing.code, byte (s.entry st).eligible.toNat,
          byte (s.entry st).lead.toNat]⟩))

/-- WRCELL, decided in order: BAD_OPERAND above 16 bytes, REFUSED in HALTED, BAD_ROLE unless OWN, BAD_OPERAND for another length, OK with
nothing changed for the stored value. -/
def Obligations.WrcellDecidesInOrder : Prop :=
  ∀ (s : State) (c : CellNo) (value : List Byte), Ready s →
    (16 < value.length → exec (.wrcell c value) s = .next (s.setPort ⟨[6]⟩))
    ∧ (value.length ≤ 16 → s.node = .halted → exec (.wrcell c value) s = .next (s.setPort ⟨[3]⟩))
    ∧ (value.length ≤ 16 → s.node ≠ .halted → (s.cell c).eff ≠ .own → exec (.wrcell c value) s = .next (s.setPort ⟨[7]⟩))
    ∧ (value.length ≤ 16 → s.node ≠ .halted → (s.cell c).eff = .own →
        (value.length ≠ (s.cell c).cfg.length → exec (.wrcell c value) s = .next (s.setPort ⟨[6]⟩))
        ∧ (value.length = (s.cell c).cfg.length → value = (s.cell c).value →
            exec (.wrcell c value) s = .next (s.setPort ⟨[0, (s.cell c).version]⟩)))

/-- A changing write: value, version, take cycle; the changed flag during the cell's flight; in MEMBER, for ON_CHANGE, a CHANGE trigger
with the gap at 0 and else the held flag; no trigger elsewhere. The trigger merges into the cell's entry or deferred place, creates an entry of
reason CHANGE at the end of the arrival order, or defers the cell with that reason; the first cell to be deferred posts QUEUE_BACKLOG, and
nothing else posts. -/
def Obligations.ChangingWriteRaisesTheVersion : Prop :=
  ∀ (s : State) (c : CellNo) (value : List Byte), Ready s → ShapeSound s → value.length ≤ 16 → s.node ≠ .halted →
    (s.cell c).eff = .own → value.length = (s.cell c).cfg.length → value ≠ (s.cell c).value →
    ∃ t, exec (.wrcell c value) s = .next t ∧ t.port = ⟨[0, (s.cell c).version + 1]⟩
      ∧ t.cell c = { s.cell c with
          value := value
          version := (s.cell c).version + 1
          takeCycle := s.cycle.number
          changed := (s.cell c).changed || s.sendQueue.flies c
          held := (s.cell c).held || (s.node == .member && (s.cell c).cfg.policy == .onChange && (s.cell c).gapCount != 0) }
      ∧ (∀ d, d ≠ c → t.cell d = s.cell d)
      ∧ ((s.node ≠ .member ∨ (s.cell c).cfg.policy ≠ .onChange ∨ (s.cell c).gapCount ≠ 0) →
          t.sendQueue = s.sendQueue ∧ t.notices = s.notices)
      ∧ (s.node = .member → (s.cell c).cfg.policy = .onChange → (s.cell c).gapCount = 0 →
          Triggered c .change s.sendQueue t.sendQueue
          ∧ (s.sendQueue.deferred = [] → s.sendQueue.has c = false → 16 ≤ s.sendQueue.entries.length →
              t.notices = (post ⟨.queueBacklog, some c, 0, s.cycle.number, 0⟩ s).notices)
          ∧ ((s.sendQueue.deferred ≠ [] ∨ s.sendQueue.has c = true ∨ s.sendQueue.entries.length < 16) → t.notices = s.notices))
      ∧ ChangesOnly [.cells, .sendQueue, .counters, .notices, .posted, .port] s t

/-- SNFREE: code 51; a READING area becomes EMPTY with OK and the area code; REFUSED with none; BUSY in LOADING; no other request but
RESTART gives back a READING area. -/
def Obligations.SnfreeGivesBackTheArea : Prop :=
  (∀ ties extra, commandOf ties (51 :: extra) = .snfree)
  ∧ (∀ s : State, Asked s → s.node = .loading → exec .snfree s = .next (s.setPort ⟨[2]⟩))
  ∧ (∀ s : State, Ready s →
      (s.snapshots.areaA.state = .reading → exec .snfree s = .next ((s.setSnapshots
          ⟨⟨.empty, 0, false, 0, []⟩, s.snapshots.areaB, if s.snapshots.newer = some .a then none else s.snapshots.newer⟩).setPort ⟨[0, 0]⟩))
      ∧ (s.snapshots.areaA.state ≠ .reading → s.snapshots.areaB.state = .reading → exec .snfree s = .next ((s.setSnapshots
          ⟨s.snapshots.areaA, ⟨.empty, 0, false, 0, []⟩, if s.snapshots.newer = some .b then none else s.snapshots.newer⟩).setPort ⟨[0, 1]⟩))
      ∧ (s.snapshots.areaA.state ≠ .reading → s.snapshots.areaB.state ≠ .reading → exec .snfree s = .next (s.setPort ⟨[3]⟩)))
  ∧ (∀ (s t : State) (c : Instr), SnapshotsSound s → requestBytes c ≠ none → c ≠ .snfree → c ≠ .restart → exec c s = .next t →
      (s.snapshots.areaA.state = .reading → t.snapshots.areaA = s.snapshots.areaA)
      ∧ (s.snapshots.areaB.state = .reading → t.snapshots.areaB = s.snapshots.areaB))

/-- SNOPEN: code 49; REFUSED with an area READING, EMPTY with none READY, the one READY area opened, of two the newer opened and the older
emptied and counted; BUSY in LOADING. -/
def Obligations.SnopenOpensTheNewest : Prop :=
  (∀ ties extra, commandOf ties (49 :: extra) = .snopen)
  ∧ (∀ s : State, Asked s → s.node = .loading → exec .snopen s = .next (s.setPort ⟨[2]⟩))
  ∧ ∀ s : State, Ready s → SnapshotsSound s →
    ((s.snapshots.areaA.state = .reading ∨ s.snapshots.areaB.state = .reading) → exec .snopen s = .next (s.setPort ⟨[3]⟩))
    ∧ (s.snapshots.areaA.state = .empty → s.snapshots.areaB.state = .empty → exec .snopen s = .next (s.setPort ⟨[12]⟩))
    ∧ (s.snapshots.areaA.state = .ready →
        (s.snapshots.areaB.state = .empty ∨ s.snapshots.areaB.state = .ready ∧ s.snapshots.newer ≠ some .b) →
        ∃ t, exec .snopen s = .next t
          ∧ t.port = ⟨[0, 0, byte (s.snapshots.areaA.cycle.toNat / 256), byte s.snapshots.areaA.cycle.toNat,
              byte s.snapshots.areaA.complete.toNat, byte (s.snapshots.areaA.count / 256), byte s.snapshots.areaA.count]⟩
          ∧ t.snapshots = ⟨{ s.snapshots.areaA with state := .reading },
              if s.snapshots.areaB.state = .ready then Area.empty else s.snapshots.areaB, s.snapshots.newer⟩
          ∧ t.counters = (if s.snapshots.areaB.state = .ready then s.counters.set 11 (min (s.counters.getD 11 0 + 1) 65535)
              else s.counters)
          ∧ ChangesOnly [.snapshots, .counters, .port] s t)
    ∧ (s.snapshots.areaB.state = .ready →
        (s.snapshots.areaA.state = .empty ∨ s.snapshots.areaA.state = .ready ∧ s.snapshots.newer = some .b) →
        ∃ t, exec .snopen s = .next t
          ∧ t.port = ⟨[0, 1, byte (s.snapshots.areaB.cycle.toNat / 256), byte s.snapshots.areaB.cycle.toNat,
              byte s.snapshots.areaB.complete.toNat, byte (s.snapshots.areaB.count / 256), byte s.snapshots.areaB.count]⟩
          ∧ t.snapshots = ⟨if s.snapshots.areaA.state = .ready then Area.empty else s.snapshots.areaA,
              { s.snapshots.areaB with state := .reading }, s.snapshots.newer⟩
          ∧ t.counters = (if s.snapshots.areaA.state = .ready then s.counters.set 11 (min (s.counters.getD 11 0 + 1) 65535)
              else s.counters)
          ∧ ChangesOnly [.snapshots, .counters, .port] s t)

/-- SNREAD: code 50; it changes nothing but the response: REFUSED with no area READING, BAD_ROLE for a cell the open snapshot does not
include, else the copy in 6 result bytes and its value; BUSY in LOADING. -/
def Obligations.SnreadReturnsTheCopy : Prop :=
  (∀ ties (c : CellNo) extra, commandOf ties (50 :: c :: extra) = .snread c)
  ∧ (∀ (s : State) (c : CellNo), Asked s → s.node = .loading → exec (.snread c) s = .next (s.setPort ⟨[2]⟩))
  ∧ ∀ (s : State) (c : CellNo) (area : Area), Ready s → ValuesFit s →
    (s.snapshots.areaA.state ≠ .reading → s.snapshots.areaB.state ≠ .reading → exec (.snread c) s = .next (s.setPort ⟨[3]⟩))
    ∧ ((area = s.snapshots.areaA ∨ s.snapshots.areaA.state ≠ .reading ∧ area = s.snapshots.areaB) → area.state = .reading →
        ((∀ x ∈ area.copies, x.cell ≠ c) → exec (.snread c) s = .next (s.setPort ⟨[7]⟩))
        ∧ ∀ x, area.copies.find? (·.cell == c) = some x → x.value.length = x.length
            ∧ exec (.snread c) s = .next (s.setPort ⟨[0, byte x.eff.code, byte x.length, x.version, byte x.owner.toNat,
              byte x.freshness.code, byte x.age] ++ x.value⟩))

/-! ## Own frames -/

/-- FRAME_START: where the node may start and the Send Queue offers a candidate, its image goes into the in-flight slot and onto the
line, and the time of the over-run check begins; else nothing happens. Where the transmit path stops in the frame, if it does, is a free value
(log 35): the statement holds for every value of it. -/
def Obligations.FrameStartSendsTheOffer : Prop :=
  ∀ s : State, Live s →
    (∀ target, s.line.lineState = .idle → s.line.track = .none → s.sendQueue.inFlight = none → (s.node = .member ∨ s.node = .leaving) →
      (s.standingUnit.standing = .active ∨ s.standingUnit.standing = .guarded ∧ s.line.suspension = false) → s.offer = some target →
      ∃ t, exec .frameStart s = .next t ∧ t.sendQueue = { s.sendQueue with inFlight := some ⟨target, s.image target⟩ }
        ∧ t.line = { s.line with
            lineState := .busy, track := .sending, driver := .frame, vetoDue := none, idleRun := 0, dominantRun := 1, suspension := false,
            tx := (s.image target).stream, elapsed := 0, stall := t.line.stall }
        ∧ t.draws = s.draws + 1
        ∧ t.cycle = { s.cycle with mark := if target = .mark then .inFlight else s.cycle.mark }
        ∧ ChangesOnly [.line, .driver, .sendQueue, .flight, .cycle, .draws] s t)
    ∧ ((s.line.lineState ≠ .idle ∨ s.line.track ≠ .none ∨ s.sendQueue.inFlight ≠ none ∨ s.node ≠ .member ∧ s.node ≠ .leaving
        ∨ s.standingUnit.standing = .silent
        ∨ s.standingUnit.standing = .guarded ∧ s.line.suspension = true ∨ s.offer = none) → exec .frameStart s = .next s)

/-- What the Send Queue offers: in MEMBER the mark ahead of all, and else the choice among the presence entry and every waiting queue entry;
in LEAVING the leaving presence alone. KEY order takes the lowest contention field, the presence ahead of a publication with an equal one;
ARRIVAL order takes the lowest class and within it the earliest. The frame image of each kind is formed from the state at the frame start. -/
def Obligations.OfferFollowsTheSendOrder : Prop :=
  (∀ s : State, s.node = .member → s.cycle.mark = .waiting → s.offer = some .mark)
  ∧ (∀ s : State, s.node = .member → s.cycle.mark ≠ .waiting →
      s.offer = (choose s.loader.params.sendOrder s.candidates).map Candidate.target)
  ∧ (∀ (s : State) (d : Candidate), s.node = .member →
      (d ∈ s.candidates ↔
        (s.membership.presence.filled = true ∧ s.inFlightIs .presence = false ∧ d = ⟨.presence, 3, 0, s.membership.presence.place⟩)
        ∨ ∃ e ∈ s.sendQueue.entries, s.sendQueue.flies e.cell = false
            ∧ d = ⟨.entry e.cell, if e.kind = .publication then (s.cell e.cell).cfg.cls.toNat else 2, e.cell.toNat, e.arrival⟩))
  ∧ (∀ s : State, s.node = .leaving → s.offer =
      if s.membership.presence.filled = true ∧ s.membership.presence.leaving = true ∧ s.inFlightIs .presence = false then some .presence
      else none)
  ∧ (∀ s : State, s.node ≠ .member → s.node ≠ .leaving → s.offer = none)
  ∧ (∀ (l : List Candidate) (c : Candidate), choose .key l = some c →
      c ∈ l ∧ ∀ d ∈ l, 256 * c.cls + c.subject ≤ 256 * d.cls + d.subject
        ∧ (256 * c.cls + c.subject = 256 * d.cls + d.subject → d.target = .presence → c.target = .presence))
  ∧ (∀ (l : List Candidate) (c : Candidate), choose .arrival l = some c →
      c ∈ l ∧ ∀ d ∈ l, c.cls < d.cls ∨ c.cls = d.cls ∧ c.place ≤ d.place)
  ∧ (∀ (o : SendOrder) (l : List Candidate), l ≠ [] → (choose o l).isSome = true)
  ∧ ∀ s : State,
    s.image .mark = ⟨0, 0, s.own, .mark s.cycle.markNumber⟩
    ∧ s.image .presence = ⟨3, 0, s.own, .presence s.loader.digest (decide (s.standingUnit.standing = .guarded))
        s.membership.presence.leaving s.loader.params.leadEligible s.cycle.lead⟩
    ∧ (∀ e ∈ s.sendQueue.entries, QueueSound s → e.kind = .publication →
        s.image (.entry e.cell) = ⟨(s.cell e.cell).cfg.cls, e.cell, s.own, .publication (s.cell e.cell).version
          (BitVec.ofNat 8 s.cycle.number.toNat) (s.cell e.cell).value⟩)
    ∧ (∀ e ∈ s.sendQueue.entries, QueueSound s → e.kind = .fetch → s.image (.entry e.cell) = ⟨2, e.cell, s.own, .fetch⟩)

/-- The five outcomes: the send fault count of R24, the line counters of R21, the in-flight slot emptied, the suspension of R18, the run of
dominant symbols of R19; after a CLASH a veto is due one symbol later exactly at a node still on the line whose standing, the clash counted, is
ACTIVE, and it is counted only when it begins. VETOED and CLASH that raise the send fault count to 240 silence the node and cut it off, with its
queue flushed, its slots abandoned, its lead dropped and its driver released. The node's own mark: SENT and LONE begin the cycle it numbers and
freeze the table in MEMBER; LOST, VETOED and CLASH make it WAITING again at a lead and EMPTY at a node that leads no longer. A presence in MEMBER:
SENT and LONE empty its entry, LOST keeps it, VETOED and CLASH count an attempt and empty it at the retry limit. -/
def Obligations.OutcomesAreCounted : Prop :=
  ∀ (s : State) (view : LineView) (ties : Ties), Live s → StandingSound s → s.standingUnit.standing ≠ .silent → CountersSound s →
    SnapshotsSound s →
    (s.awaits view .sent = true → ∃ t, exec (.outcomeSent view ties) s = .next t ∧ t.sendQueue.inFlight = none
      ∧ t.standingUnit.sendFaults = s.standingUnit.sendFaults - 1 ∧ t.standingUnit.recvFaults = s.standingUnit.recvFaults
      ∧ t.line.track = .none ∧ t.line.driver = .released ∧ t.line.vetoDue = none ∧ t.line.suspension = true ∧ t.line.dominantRun = 0
      ∧ t.counters.take 7 = (bump 0 1 s.counters).take 7)
    ∧ (s.awaits view .lone = true → ∃ t, exec (.outcomeLone view ties) s = .next t ∧ t.sendQueue.inFlight = none
      ∧ t.standingUnit.sendFaults
          = (if s.standingUnit.sendFaults < 120 then min (s.standingUnit.sendFaults + 6) 120 else s.standingUnit.sendFaults)
      ∧ (t.onLine = true → t.line.track = .trailing) ∧ t.line.driver = .released ∧ t.line.suspension = true ∧ t.line.dominantRun = 0
      ∧ t.counters.take 7 = (bump 5 1 s.counters).take 7)
    ∧ (s.awaits view .lost = true → ∃ t, exec (.outcomeLost view) s = .next t ∧ t.sendQueue.inFlight = none
      ∧ t.standingUnit = s.standingUnit ∧ t.node = s.node ∧ t.line.track = .receiving ∧ t.line.driver = .released
      ∧ t.line.suspension = s.line.suspension ∧ t.line.dominantRun = view.dominantRun
      ∧ t.counters.take 7 = (bump 6 1 s.counters).take 7)
    ∧ (s.awaits view .vetoed = true → ∃ t, exec (.outcomeVetoed view ties) s = .next t ∧ t.sendQueue.inFlight = none
      ∧ t.standingUnit.sendFaults = s.standingUnit.sendFaults + 6 ∧ t.line.track = .none ∧ t.line.driver = .released
      ∧ t.line.vetoDue = none ∧ t.line.suspension = true ∧ (t.onLine = true → t.line.dominantRun = view.dominantRun)
      ∧ (240 ≤ s.standingUnit.sendFaults + 6 → t.node = .cutOff ∧ (ShapeSound s → EnteredCutOff t))
      ∧ t.counters.take 7 = (bump 2 1 s.counters).take 7)
    ∧ (s.awaits view .clash = true → ∃ t, exec (.outcomeClash view ties) s = .next t ∧ t.sendQueue.inFlight = none
      ∧ t.standingUnit.sendFaults = s.standingUnit.sendFaults + 6 ∧ t.line.track = .none ∧ t.line.driver = .released
      ∧ t.line.suspension = true ∧ (t.onLine = true → t.line.dominantRun = view.dominantRun)
      ∧ (240 ≤ s.standingUnit.sendFaults + 6 → t.node = .cutOff ∧ (ShapeSound s → EnteredCutOff t))
      ∧ t.line.vetoDue = (if s.standingUnit.sendFaults + 6 < 120 ∧ s.standingUnit.recvFaults < 120 ∧ t.onLine = true then
          some (2 ^ (4 - s.loader.params.rateCode)) else none)
      ∧ t.counters.take 7 = (bump 2 1 s.counters).take 7)
    ∧ (∀ (image : Frame) (n : CycleNo), s.sendQueue.inFlight = some ⟨.mark, image⟩ → image.body = .mark n →
        (∀ o, (o = .sent ∨ o = .lone) → s.awaits view o = true → ∃ t, exec (outcomeCommand o view ties) s = .next t
          ∧ t.cycle = { s.cycle with number := n, cycleTimer := 0, markTimer := 0, synced := true, mark := .empty }
          ∧ (s.node = .member → Froze n s t) ∧ (s.node = .leaving → t.snapshots = s.snapshots))
        ∧ (∀ o, (o = .lost ∨ (o = .vetoed ∨ o = .clash) ∧ s.standingUnit.sendFaults + 6 < 240) → s.awaits view o = true →
          ∃ t, exec (outcomeCommand o view ties) s = .next t
            ∧ t.cycle = { s.cycle with mark := if s.cycle.lead then .waiting else .empty }))
    ∧ (∀ image : Frame, s.node = .member → s.sendQueue.inFlight = some ⟨.presence, image⟩ →
        (∀ o, (o = .sent ∨ o = .lone) → s.awaits view o = true → ∃ t, exec (outcomeCommand o view ties) s = .next t
          ∧ t.membership = { s.membership with presence := ⟨false, false, 0, 0⟩ })
        ∧ (s.awaits view .lost = true → ∃ t, exec (.outcomeLost view) s = .next t ∧ t.membership = s.membership)
        ∧ (∀ o, (o = .vetoed ∨ o = .clash) → s.standingUnit.sendFaults + 6 < 240 → s.awaits view o = true →
          ∃ t, exec (outcomeCommand o view ties) s = .next t
            ∧ t.membership = { s.membership with
                presence := if s.membership.presence.attempts + 1 < s.loader.params.retryLimit + 1 then
                  { s.membership.presence with attempts := s.membership.presence.attempts + 1 } else ⟨false, false, 0, 0⟩ }))

/-- A queue entry's outcome. In MEMBER: LOST keeps the entry as it was. VETOED, CLASH, and LONE of a publication fail an attempt: below the retry
limit the entry is kept with one attempt more, at it the entry leaves with SEND_FAILED, and a fetch request's slot awaits the answer. With
cancel-requested set the entry leaves at any outcome but SENT with SEND_CANCELLED, and its slot is freed. At SENT a publication leaves, its gap
begins, and a change written during the flight is published or held; a fetch request leaves at SENT and at LONE, and its slot awaits the answer.
Every outcome of a publication clears the changed flag. The place of an entry that leaves goes to one that waits for it, and the other entries stay
as they were; the CHANGE trigger of a change in flight is taken after that (DEDUCED, log 26). What a VETOED or CLASH that raises the send fault
count to 240 leaves is stated with the five outcomes. In LEAVING the entry leaves at every outcome: at SENT the gap of a publication begins and
nothing follows, at any other there is no further attempt and no SEND_FAILED, and SEND_CANCELLED only where cancel was requested. A notice is in the
queue when the record mask takes it and there is room for all that the step can raise. -/
def Obligations.EntriesAreRetriedOrLeave : Prop :=
  (∀ (s : State) (view : LineView) (ties : Ties) (c : CellNo) (image : Frame) (e : Entry) (o : OutcomeKind), Live s → ShapeSound s →
    StandingSound s → SlotsSound s → s.node = .member → ((o = .vetoed ∨ o = .clash) → s.standingUnit.sendFaults + 6 < 240) →
    s.sendQueue.inFlight = some ⟨.entry c, image⟩ → s.sendQueue.entries.find? (·.cell == c) = some e → s.awaits view o = true →
    let frame := [Block.line, .driver, .standing, .level, .counters, .lineCounters, .cells, .sendQueue, .flight, .slots, .notices, .posted]
    let settled := if e.kind = .publication then s.cells.set c.toNat { s.cell c with changed := false } else s.cells
    let gone (t : State) := (s.sendQueue.defers c = false → (e.kind = .publication → s.slotHolding c = none) → t.sendQueue.has c = false)
      ∧ (QueueSound s → PlaceGiven c s t)
    let told (t : State) (k : NoticeKind) := s.notices.list.length ≤ 29 → s.loader.params.recordMask.getLsbD k.code = true →
      ⟨k, some c, 0, s.cycle.number, byte (8 * e.reason.code + o.code)⟩ ∈ t.notices.list
    let awaiting (t : State) := ∀ i, s.slotHolding c = some i → (s.slot i).state = .requesting →
      t.slots = s.slots.set i { s.slot i with state := .awaiting, timer := s.loader.params.fetchTimeout }
    ∃ t, exec (outcomeCommand o view ties) s = .next t ∧ ChangesOnly frame s t
      ∧ (∀ x ∈ s.sendQueue.entries, x.cell ≠ c → x ∈ t.sendQueue.entries)
      ∧ (e.kind = .publication → t.slots = s.slots)
      ∧ (o ≠ .sent → t.cells = settled)
      ∧ (o ≠ .sent → e.cancelRequested = true → gone t ∧ told t .sendCancelled
          ∧ ∀ i, e.kind = .fetch → s.slotHolding c = some i → (s.slot i).state = .requesting →
              t.slots = s.slots.set i ⟨.free, 0, 0, 0⟩)
      ∧ (o = .lost → e.cancelRequested = false → t.sendQueue = { s.sendQueue with inFlight := none } ∧ t.slots = s.slots)
      ∧ ((o = .vetoed ∨ o = .clash ∨ o = .lone ∧ e.kind = .publication) → e.cancelRequested = false →
          (e.attempts + 1 < s.loader.params.retryLimit + 1 → t.slots = s.slots
            ∧ t.sendQueue.entries = s.sendQueue.entries.map (fun x => if x.cell = c then { x with attempts := x.attempts + 1 } else x))
          ∧ (s.loader.params.retryLimit + 1 ≤ e.attempts + 1 → gone t ∧ told t .sendFailed ∧ (e.kind = .fetch → awaiting t)))
      ∧ (e.kind = .fetch → (o = .sent ∨ o = .lone ∧ e.cancelRequested = false) → gone t ∧ awaiting t ∧ t.cells = s.cells)
      ∧ (∀ sent tag data, e.kind = .publication → o = .sent → image.body = .publication sent tag data →
          let gap := if (s.cell c).cfg.policy = .onChange then (s.cell c).cfg.gap else (s.cell c).gapCount
          let follows := (s.cell c).changed = true ∧ (s.cell c).cfg.policy = .onChange ∧ (s.cell c).version ≠ sent
          (¬(follows ∧ gap = 0) → gone t)
          ∧ (follows → gap = 0 → QueueSound s →
              ∃ u, PlaceGiven c s u ∧ u.slots = s.slots ∧ Triggered c .change u.sendQueue t.sendQueue)
          ∧ t.cells = s.cells.set c.toNat { s.cell c with
              changed := false, gapCount := gap, held := (s.cell c).held || decide (follows ∧ gap ≠ 0) }))
  ∧ ∀ (s : State) (view : LineView) (ties : Ties) (c : CellNo) (image : Frame) (e : Entry) (o : OutcomeKind), Live s → StandingSound s →
    SlotsSound s → s.node = .leaving → ((o = .vetoed ∨ o = .clash) → s.standingUnit.sendFaults + 6 < 240) →
    s.sendQueue.inFlight = some ⟨.entry c, image⟩ → s.sendQueue.entries.find? (·.cell == c) = some e → s.awaits view o = true →
    ∃ t, exec (outcomeCommand o view ties) s = .next t
      ∧ t.sendQueue = { s.sendQueue with entries := s.sendQueue.entries.filter (·.cell != c), inFlight := none }
      ∧ (e.kind = .fetch → t.cells = s.cells)
      ∧ (e.kind = .publication → t.cells = s.cells.set c.toNat { s.cell c with
          changed := false
          gapCount := if o = .sent ∧ (s.cell c).cfg.policy = .onChange then (s.cell c).cfg.gap else (s.cell c).gapCount })
      ∧ (o ≠ .sent → e.cancelRequested = true → s.notices.list.length ≤ 29 →
          s.loader.params.recordMask.getLsbD NoticeKind.sendCancelled.code = true →
          ⟨.sendCancelled, some c, 0, s.cycle.number, byte (8 * e.reason.code + o.code)⟩ ∈ t.notices.list)
      ∧ (∀ n ∈ t.notices.list, n ∈ s.notices.list
          ∨ n.kind ≠ .sendFailed ∧ (o = .sent ∨ e.cancelRequested = false → n.kind ≠ .sendCancelled))
      ∧ ChangesOnly [.line, .driver, .standing, .level, .counters, .lineCounters, .cells, .sendQueue, .flight, .notices, .posted] s t

/-- In LEAVING. The leaving presence: SENT and LONE enter DETACHED with the driver released and the queue empty; LOST keeps the node LEAVING;
VETOED and CLASH count an attempt below the retry limit and enter DETACHED at it; where they raise the send fault count to 240 the node is
CUT_OFF instead. A periodic presence, in flight since before the DETACH, is followed by the leaving presence, whatever its outcome, but for a
fall to SILENT. -/
def Obligations.LeavingPresenceEndsInDetached : Prop :=
  ∀ (s : State) (view : LineView) (ties : Ties) (image : Frame), Live s → StandingSound s → s.node = .leaving →
    s.sendQueue.inFlight = some ⟨.presence, image⟩ →
    let detached (t : State) := t.node = .detached ∧ t.line.driver = .released ∧ t.line.vetoDue = none ∧ t.cycle.synced = false
      ∧ t.sendQueue.entries = [] ∧ t.sendQueue.deferred = [] ∧ t.sendQueue.inFlight = none ∧ t.membership.presence.filled = false
      ∧ t.snapshots = s.snapshots
    let faulty (o : OutcomeKind) := o = .vetoed ∨ o = .clash
    (s.membership.presence.leaving = true →
      (∀ o, (o = .sent ∨ o = .lone) → s.awaits view o = true → ∃ t, exec (outcomeCommand o view ties) s = .next t ∧ detached t)
      ∧ (s.awaits view .lost = true → ∃ t, exec (.outcomeLost view) s = .next t ∧ t.membership = s.membership
          ∧ t.sendQueue = { s.sendQueue with inFlight := none })
      ∧ (∀ o, faulty o → s.standingUnit.sendFaults + 6 < 240 → s.awaits view o = true →
          ∃ t, exec (outcomeCommand o view ties) s = .next t
            ∧ (s.membership.presence.filled = true → s.membership.presence.attempts + 1 < s.loader.params.retryLimit + 1 →
                t.membership = { s.membership with
                  presence := { s.membership.presence with attempts := s.membership.presence.attempts + 1 } }
                ∧ t.sendQueue = { s.sendQueue with inFlight := none })
            ∧ (s.loader.params.retryLimit + 1 ≤ s.membership.presence.attempts + 1 → detached t)))
    ∧ (s.membership.presence.leaving = false →
        ∀ o, (faulty o → s.standingUnit.sendFaults + 6 < 240) → s.awaits view o = true →
          ∃ t, exec (outcomeCommand o view ties) s = .next t
            ∧ t.membership = { s.membership with presence := ⟨true, true, 0, s.sendQueue.nextArrival⟩ })
    ∧ (∀ o, faulty o → 240 ≤ s.standingUnit.sendFaults + 6 → s.awaits view o = true →
        ∃ t, exec (outcomeCommand o view ties) s = .next t ∧ t.node = .cutOff ∧ (ShapeSound s → EnteredCutOff t))

/-- The over-run check. DRIVER_TIMEOUT of an own frame that has not reached its guard symbol comes at the 240th symbol time: the send fault count
becomes 240, the node falls SILENT and is CUT_OFF with its queue flushed and its driver released, and 64 dominant symbols in a row by then have
made the line STUCK. Of a frame that has reached its guard symbol, and where no own frame is sent, it changes nothing. On an empty queue a frame
whose transmit path has stopped before the guard symbol is over-run at that time of itself (log 35). That the time missing until then passes
first is log 4. -/
def Obligations.DriverTimeoutSilencesTheNode : Prop :=
  (∀ (s : State) (report : Overrun), Live s → ShapeSound s → StandingSound s → DriverBounded s →
    let unit := 2 ^ (4 - s.loader.params.rateCode)
    let reached := s.line.guardPlace * unit ≤ s.line.elapsed ∧ ∀ k, s.line.stall = some k → s.line.guardPlace ≤ k
    (s.line.track = .sending → (s.node = .member ∨ s.node = .leaving) → ¬reached →
      ∃ t, exec (.driverTimeout report) s = .next t ∧ EnteredCutOff t ∧ t.standingUnit.sendFaults = 240
        ∧ t.standingUnit.recvFaults = s.standingUnit.recvFaults ∧ t.line.track = .none
        ∧ t.line.suspension = true ∧ t.line.dominantRun = min report.view.dominantRun 64
        ∧ t.line.lineState = (if 64 ≤ report.view.dominantRun then .stuck else s.line.lineState)
        ∧ t.cycle.cycleTimer = s.cycle.cycleTimer + (240 * unit - s.line.elapsed)
        ∧ t.cycle.markTimer = s.cycle.markTimer + (240 * unit - s.line.elapsed)
        ∧ t.cycle.number = s.cycle.number ∧ t.cycle.synced = s.cycle.synced ∧ t.cycle.syncHeld = s.cycle.syncHeld
        ∧ t.counters.take 7 = (s.counters.set 2 (min (s.counters.getD 2 0 + 1) 65535)).take 7
        ∧ ChangesOnly [.line, .driver, .standing, .level, .counters, .lineCounters, .membership, .node, .cycle, .clock, .lead, .cells,
            .sendQueue, .flight, .slots, .notices, .posted] s t)
    ∧ ((s.line.track ≠ .sending ∨ s.node ≠ .member ∧ s.node ≠ .leaving ∨ reached) → exec (.driverTimeout report) s = .next s))
  ∧ ∀ (s : State) (k : Nat), Live s → ShapeSound s → StandingSound s → DriverBounded s → s.pending = [] → s.line.track = .sending →
    (s.node = .member ∨ s.node = .leaving) → s.line.stall = some k → k < s.line.guardPlace →
    240 * 2 ^ (4 - s.loader.params.rateCode) ≤ s.line.elapsed + 1 →
    ∃ t, step s = .next t ∧ EnteredCutOff t ∧ t.standingUnit.sendFaults = 240 ∧ t.line.track = .none

/-! ## Reception and the line -/

/-- RECEIVE_FAULT: counted, the frame ended; the receive fault count of a node not SILENT rises to at most 127; a veto is due exactly at a
node that may drive and is ACTIVE with the fault counted, one symbol later, and two after a check error; it is counted only when it
begins. The 32nd observation is counted into its window, which is then judged. -/
def Obligations.ReceiveFaultIsCountedAndVetoed : Prop :=
  ∀ (s : State) (view : FaultView) (ties : Ties) (kind : FaultKind), Live s → s.receives = true → view.kind? = some kind →
    StandingSound s → CountersSound s →
    ∃ t, exec (.receiveFault view ties) s = .next t ∧ t.line.track = .none ∧ t.line.driver = .released
      ∧ t.line.dominantRun = view.dominantRun
      ∧ t.standingUnit.recvFaults = (if s.standingUnit.standing = .silent then s.standingUnit.recvFaults
          else min (s.standingUnit.recvFaults + 1) (max 127 s.standingUnit.recvFaults))
      ∧ t.standingUnit.sendFaults = s.standingUnit.sendFaults
      ∧ (s.standingUnit.observations + 1 < 32 → t.standingUnit.observations = s.standingUnit.observations + 1
          ∧ t.standingUnit.faults = s.standingUnit.faults + 1)
      ∧ (32 ≤ s.standingUnit.observations + 1 → WindowJudged (s.standingUnit.faults + 1) s t)
      ∧ t.counters.take 7 = (bump 3 1 s.counters).take 7
      ∧ t.line.vetoDue = (if s.node.drives = true ∧ s.standingUnit.standing ≠ .silent ∧ s.standingUnit.sendFaults < 120
            ∧ min (s.standingUnit.recvFaults + 1) (max 127 s.standingUnit.recvFaults) < 120 then
          some ((if kind = .check then 2 else 1) * 2 ^ (4 - s.loader.params.rateCode)) else none)
      ∧ ChangesOnly [.standing, .level, .counters, .lineCounters, .line, .driver, .notices, .posted] s t

/-- FRAME_TAKEN of another station: counted, the frame ended, the receive fault count of a node not SILENT one lower; a publication or fetch
request of a station that is not PRESENT, and a mark of a FOREIGN one, reach no block. A frame other than a presence sets the silence count of a
sender heard to 0, but for a publication that the model's choice of log 13 lets fall together with its sender's departure. The 32nd observation
closes its window. -/
def Obligations.FramesTakenAreCountedAndAdmitted : Prop :=
  ∀ (s : State) (view : FrameView) (ties : Ties) (f : Frame), Live s → s.receives = true → view.frame? = some f → f.station ≠ s.own →
    StandingSound s → CountersSound s →
    ∃ t, exec (.frameTaken view ties) s = .next t ∧ t.line.track = .none ∧ t.line.acked = s.mayDrive
      ∧ t.standingUnit.recvFaults = (if s.standingUnit.standing = .silent then s.standingUnit.recvFaults
          else s.standingUnit.recvFaults - 1)
      ∧ t.standingUnit.sendFaults = s.standingUnit.sendFaults
      ∧ (s.standingUnit.observations + 1 < 32 → t.standingUnit.observations = s.standingUnit.observations + 1
          ∧ t.standingUnit.faults = s.standingUnit.faults)
      ∧ (32 ≤ s.standingUnit.observations + 1 → WindowJudged s.standingUnit.faults s t)
      ∧ t.counters.take 7 = (s.counters.set 1 (min (s.counters.getD 1 0 + 1) 65535)).take 7
      ∧ ((s.entry f.station).state ≠ .present → (f.body.kind = 2 ∨ f.body.kind = 3) → ChangesOnly Block.reception s t)
      ∧ ((s.entry f.station).state = .foreign → f.body.kind = 0 → ChangesOnly Block.reception s t)
      ∧ (ShapeSound s → (s.entry f.station).heard = true → f.body.kind ≠ 1 →
          ((f.body.kind ≠ 2 ∨ ties.departureStands = false ∨ (s.entry f.station).state ≠ .present
              ∨ (s.entry f.station).silence ≠ 3 * s.loader.params.presenceInterval) →
            t.entry f.station = { s.entry f.station with silence := 0 })
          ∧ (f.body.kind = 2 → ties.departureStands = true → (s.entry f.station).state = .present →
              (s.entry f.station).silence = 3 * s.loader.params.presenceInterval → t.entry f.station = s.entry f.station))

/-- A frame taken that bears the own station number halts the node; it is counted as a frame taken by the Line Interface and the Standing
Unit. -/
def Obligations.DuplicateStationHalts : Prop :=
  ∀ (s : State) (view : FrameView) (ties : Ties) (f : Frame), Live s → ShapeSound s → s.receives = true → view.frame? = some f →
    f.station = s.own →
    ∃ t, exec (.frameTaken view ties) s = .next t ∧ t.node = .halted ∧ t.cycle.lead = false ∧ t.cycle.synced = false
      ∧ t.cycle.mark = .empty ∧ t.cycle.takeover = none ∧ t.cycle.number = s.cycle.number ∧ t.line.driver = .released
      ∧ t.line.lineState = .busy ∧ t.sendQueue.entries = [] ∧ t.sendQueue.deferred = [] ∧ t.sendQueue.inFlight = none
      ∧ (∀ g ∈ t.slots, g.inUse = false) ∧ t.membership.roster = s.membership.roster
      ∧ t.cells = s.cells.map (fun r => { r with changed := false })
      ∧ t.counters.take 7 = (bump 1 1 s.counters).take 7
      ∧ t.standingUnit.recvFaults = (if s.standingUnit.standing = .silent then s.standingUnit.recvFaults
          else s.standingUnit.recvFaults - 1)
      ∧ (s.standingUnit.observations + 1 < 32 → t.standingUnit.observations = s.standingUnit.observations + 1
          ∧ t.standingUnit.faults = s.standingUnit.faults)
      ∧ (32 ≤ s.standingUnit.observations + 1 → WindowJudged s.standingUnit.faults s t)
      ∧ ChangesOnly (Block.reception ++ [.node, .cycle, .clock, .lead, .cells, .sendQueue, .flight, .slots]) s t

/-- A mark taken from a station that is not FOREIGN begins the cycle it numbers: number adopted, both timers 0, SYNCED; in MEMBER the table as
it stood before is frozen, into the area that the areas' states, the marker and the policy choose, and a snapshot given up is counted. A
lead that takes a lower station's mark drops the lead and starts its takeover timer; from a higher station it keeps the lead and a WAITING
mark becomes EMPTY. At a member that does not lead a running takeover timer restarts from 0. -/
def Obligations.TakenMarkBeginsTheCycle : Prop :=
  ∀ (s : State) (view : FrameView) (ties : Ties) (f : Frame) (n : CycleNo), Live s → SnapshotsSound s → CountersSound s →
    s.receives = true → view.frame? = some f → f.station ≠ s.own → f.body = .mark n → (s.entry f.station).state ≠ .foreign →
    ∃ t, exec (.frameTaken view ties) s = .next t ∧ t.cycle.number = n ∧ t.cycle.cycleTimer = 0 ∧ t.cycle.markTimer = 0
      ∧ t.cycle.synced = true ∧ t.cycle.syncHeld = s.cycle.syncHeld
      ∧ (s.node = .member → Froze n s t)
      ∧ (s.node ≠ .member → t.snapshots = s.snapshots)
      ∧ (s.node = .member → s.cycle.lead = true → f.station < s.own →
          t.cycle.lead = false ∧ t.cycle.mark = .empty ∧ t.cycle.takeover = some 0)
      ∧ (s.node = .member → s.cycle.lead = true → s.own < f.station →
          t.cycle.lead = true ∧ t.cycle.mark = if s.cycle.mark = .waiting then .empty else s.cycle.mark)
      ∧ (s.node = .member → s.cycle.lead = false → t.cycle.lead = false ∧ t.cycle.mark = s.cycle.mark
          ∧ t.cycle.takeover = if s.cycle.takeover = none then none else some 0)
      ∧ ChangesOnly (Block.reception ++ [.node, .cycle, .clock, .lead, .cells, .sendQueue, .slots, .snapshots]) s t

/-- A non-leaving presence makes its sender PRESENT or FOREIGN by its digest, with silence 0 and the fields it reports; a leaving one makes a
sender heard ABSENT and its FOLLOW replicas LOST, the cells yielded to it are regained and in MEMBER get their JOIN triggers, and the fetch slots
whose cell it owned fail, the places of their waiting entries given to those that wait; of an ABSENT sender it updates
the reported fields alone. -/
def Obligations.PresenceUpdatesTheRoster : Prop :=
  ∀ (s : State) (view : FrameView) (ties : Ties) (f : Frame) (digest : BitVec 16) (guarded leaving eligible lead : Bool),
    Live s → ShapeSound s → s.receives = true → view.frame? = some f → f.wellFormed = true → f.station ≠ s.own →
    f.body = .presence digest guarded leaving eligible lead →
    ∃ t, exec (.frameTaken view ties) s = .next t
      ∧ (leaving = false → t.entry f.station
          = ⟨if digest = s.loader.digest then .present else .foreign, 0, digest, if guarded then .guarded else .active, eligible, lead⟩
          ∧ ChangesOnly Block.reception s t)
      ∧ (leaving = true → ((s.entry f.station).state = .present ∨ (s.entry f.station).state = .foreign) →
          t.entry f.station = ⟨.absent, 0, digest, if guarded then .guarded else .active, eligible, lead⟩
          ∧ (∀ c, (s.cell c).eff = .follow → (s.cell c).owner = f.station →
              ((s.cell c).freshness = .fresh ∨ (s.cell c).freshness = .stale) → t.cell c = { s.cell c with freshness := .lost })
          ∧ (∀ c, (s.cell c).eff = .yielded → (s.cell c).owner = f.station →
              t.cell c = { s.cell c with eff := .own, owner := s.own, freshness := .never, age := 0 })
          ∧ (SlotsSound s → QueueSound s → QueueAtDeparture f.station ties.fetchFirst s t))
      ∧ (leaving = true → (s.entry f.station).state ≠ .present → (s.entry f.station).state ≠ .foreign →
          t.entry f.station = { s.entry f.station with
            digest := digest, standing := if guarded then .guarded else .active, eligible := eligible, lead := lead }
          ∧ ChangesOnly Block.reception s t)
      ∧ (∀ st, st ≠ f.station → t.entry st = s.entry st)
      ∧ ChangesOnly (Block.reception ++ [.cells, .sendQueue, .slots]) s t

/-- A publication of a FOLLOW or YIELDED cell of the right length from a PRESENT station: taken with owner change from a lower station, or
with no owner, or over a NEVER or LOST replica; discarded from a higher one and counted in OWNER_CLASHES; from the owner refreshed, taken with
the versions missed counted, or discarded as older and counted in STALE_COPIES. A take or refresh with a tag that disagrees is counted in
TAG_SKEWS, and one of a FOLLOW cell frees the fetch slot that holds it; nothing else frees a slot. A waiting FETCH entry of the slot freed goes,
its place is given to one that waits for it, and the other entries stay; else the send queue stands as it is. -/
def Obligations.PublicationsAreJudgedByOwnerAndVersion : Prop :=
  ∀ (s : State) (view : FrameView) (ties : Ties) (f : Frame) (v : Version) (tag : BitVec 8) (data : List Byte),
    Live s → ShapeSound s → CountersSound s → s.receives = true → view.frame? = some f → f.station ≠ s.own →
    f.body = .publication v tag data →
    (s.entry f.station).state = .present → ((s.cell f.subject).eff = .follow ∨ (s.cell f.subject).eff = .yielded) →
    let r := s.cell f.subject
    let arrived := { r with owner := f.station, value := data, version := v, age := 0, freshness := .fresh, takeCycle := s.cycle.number }
    let one := bump 1 1 s.counters
    let skewed (l : List Nat) := if s.cycle.synced = true ∧ tag ≠ s.cycle.number.setWidth 8 ∧ tag ≠ (s.cycle.number - 1).setWidth 8 then
      bump 10 1 l else l
    let stands (t : State) := t.slots = s.slots ∧ t.sendQueue = s.sendQueue
    let waiting (i : Nat) := (s.slot i).state = .requesting ∧ s.sendQueue.has f.subject = true ∧ s.sendQueue.flies f.subject = false
    let freed (t : State) := (s.slotHolding f.subject = none ∨ r.eff = .yielded → stands t)
      ∧ ∀ i, r.eff = .follow → s.slotHolding f.subject = some i → t.slots = s.slots.set i ⟨.free, 0, 0, 0⟩
        ∧ (¬waiting i → t.sendQueue = s.sendQueue)
        ∧ (waiting i → SlotsSound s → (s.sendQueue.defers f.subject = false → t.sendQueue.has f.subject = false)
          ∧ (QueueSound s → PlaceGiven f.subject s t))
    ∃ t, exec (.frameTaken view ties) s = .next t
      ∧ (∀ d, d ≠ f.subject → t.cell d = s.cell d)
      ∧ ChangesOnly (Block.reception ++ [.cells, .sendQueue, .slots]) s t
      ∧ (data.length ≠ r.cfg.length → t.cell f.subject = r ∧ stands t ∧ t.counters.take 12 = one.take 12)
      ∧ (data.length = r.cfg.length →
          ((r.owner = 0 ∨ r.freshness = .never ∨ r.freshness = .lost ∨ f.station < r.owner) →
            t.cell f.subject = arrived ∧ freed t ∧ t.counters.take 12 = (skewed one).take 12)
          ∧ (r.owner ≠ 0 → (r.freshness = .fresh ∨ r.freshness = .stale) →
              (r.owner < f.station → t.cell f.subject = r ∧ stands t ∧ t.counters.take 12 = (bump 9 1 one).take 12)
              ∧ (f.station = r.owner →
                  (128 ≤ (v - r.version).toNat → t.cell f.subject = r ∧ stands t ∧ t.counters.take 12 = (bump 7 1 one).take 12)
                  ∧ (v = r.version → data = r.value → t.cell f.subject = { r with age := 0, freshness := .fresh } ∧ freed t
                      ∧ t.counters.take 12 = (skewed one).take 12)
                  ∧ ((v - r.version).toNat < 128 → (v ≠ r.version ∨ data ≠ r.value) → t.cell f.subject = arrived ∧ freed t
                      ∧ t.counters.take 12 = (skewed (bump 8 ((v - r.version).toNat - 1) one)).take 12))))

/-- A publication of a cell that is not a replica, from a PRESENT station. An UNUSED cell: ignored. An OWN cell of another length: discarded with
LENGTH_CLASH, and no counter but TAKEN_FRAMES. An OWN cell of the right length: from a lower station the cell yields and takes it with CLAIM_LOST,
the tag is checked, its deferred place goes, and so does its waiting entry, whose place is given to one that waits for it; from a higher one it is
discarded with CLAIM_CLASH and counted in OWNER_CLASHES, the record stands, and in MEMBER the cell gets a CLASH trigger. A notice is in the queue
when the record mask takes it and there is room for all that the step can raise. -/
def Obligations.ClaimClashesGoToTheLowerStation : Prop :=
  ∀ (s : State) (view : FrameView) (ties : Ties) (f : Frame) (v : Version) (tag : BitVec 8) (data : List Byte),
    Live s → ShapeSound s → CountersSound s → s.receives = true → view.frame? = some f → f.station ≠ s.own →
    f.body = .publication v tag data → (s.entry f.station).state = .present →
    let r := s.cell f.subject
    let one := bump 1 1 s.counters
    let skewed (l : List Nat) := if s.cycle.synced = true ∧ tag ≠ s.cycle.number.setWidth 8 ∧ tag ≠ (s.cycle.number - 1).setWidth 8 then
      bump 10 1 l else l
    let told (t : State) (k : NoticeKind) (detail : Nat) := s.notices.list.length ≤ 27 → s.loader.params.recordMask.getLsbD k.code = true →
      ⟨k, some f.subject, f.station, s.cycle.number, byte detail⟩ ∈ t.notices.list
    ∃ t, exec (.frameTaken view ties) s = .next t
      ∧ (r.eff = .unused → ChangesOnly Block.reception s t ∧ t.counters.take 12 = one.take 12)
      ∧ (r.eff = .own → data.length ≠ r.cfg.length → told t .lengthClash data.length ∧ ChangesOnly Block.reception s t
          ∧ t.counters.take 12 = one.take 12)
      ∧ (r.eff = .own → data.length = r.cfg.length → f.station < s.own →
          t.cell f.subject = { r with
            eff := .yielded
            owner := f.station
            value := data
            version := v
            age := 0
            freshness := .fresh
            takeCycle := s.cycle.number
            changed := false
            held := false
            gapCount := 0 }
          ∧ t.sendQueue.defers f.subject = false
          ∧ (s.sendQueue.flies f.subject = false → s.slotHolding f.subject = none → t.sendQueue.has f.subject = false)
          ∧ ((s.sendQueue.has f.subject = false ∨ s.sendQueue.flies f.subject = true) →
              t.sendQueue = { s.sendQueue with deferred := s.sendQueue.deferred.filter (·.1 != f.subject) })
          ∧ (s.node = .member → QueueSound s → s.sendQueue.has f.subject = true → s.sendQueue.flies f.subject = false →
              s.sendQueue.defers f.subject = false → PlaceGiven f.subject s t)
          ∧ told t .claimLost 0 ∧ t.counters.take 12 = (skewed one).take 12)
      ∧ (r.eff = .own → data.length = r.cfg.length → s.own < f.station → t.cells = s.cells
          ∧ (s.node = .member → Triggered f.subject .clash s.sendQueue t.sendQueue)
          ∧ (s.node ≠ .member → t.sendQueue = s.sendQueue)
          ∧ told t .claimClash 0 ∧ t.counters.take 12 = (bump 9 1 one).take 12)
      ∧ ((r.eff = .unused ∨ r.eff = .own) → (∀ d, d ≠ f.subject → t.cell d = s.cell d)
          ∧ ChangesOnly (Block.reception ++ [.cells, .sendQueue]) s t)

/-- A peer's fetch request from a PRESENT station: a slot REQUESTING the cell goes to AWAITING with timer F; in MEMBER the owner of the
cell answers with an ANSWER trigger. A waiting FETCH entry of the suppressed slot goes, its place to one that waits for it; one in flight stays. -/
def Obligations.PeerRequestsSuppressAndAreAnswered : Prop :=
  ∀ (s : State) (view : FrameView) (ties : Ties) (f : Frame), Live s → s.receives = true → view.frame? = some f → f.station ≠ s.own →
    f.body = .fetch → (s.entry f.station).state = .present →
    ∃ t, exec (.frameTaken view ties) s = .next t
      ∧ (∀ i, s.slotHolding f.subject = some i → (s.slot i).state = .requesting →
          t.slots = s.slots.set i { s.slot i with state := .awaiting, timer := s.loader.params.fetchTimeout }
          ∧ (SlotsSound s → s.sendQueue.has f.subject = true → s.sendQueue.flies f.subject = false →
              (s.sendQueue.defers f.subject = false → t.sendQueue.has f.subject = false) ∧ (QueueSound s → PlaceGiven f.subject s t))
          ∧ (SlotsSound s → (s.sendQueue.has f.subject = false ∨ s.sendQueue.flies f.subject = true) → t.sendQueue = s.sendQueue))
      ∧ (∀ i, s.slotHolding f.subject = some i → (s.slot i).state = .awaiting → t.slots = s.slots)
      ∧ (s.slotHolding f.subject = none → t.slots = s.slots)
      ∧ (s.node = .member → (s.cell f.subject).eff = .own → s.slotHolding f.subject = none →
          Triggered f.subject .answer s.sendQueue t.sendQueue)
      ∧ (s.node = .member → (s.cell f.subject).eff = .own → t.sendQueue.has f.subject = true ∨ t.sendQueue.defers f.subject = true)
      ∧ ((s.node ≠ .member ∨ (s.cell f.subject).eff ≠ .own) →
          (∀ i, s.slotHolding f.subject = some i → (s.slot i).state = .awaiting) → t.sendQueue = s.sendQueue)
      ∧ ChangesOnly (Block.reception ++ [.sendQueue, .slots]) s t

/-- FRAME_DISCARDED ends the frame and delivers nothing; START_SYMBOL on an IDLE line begins a reception and ends a suspension;
SUSPENSION_END ends a suspension at the 18th recessive symbol. On a BUSY line outside the fields of a frame START_SYMBOL is one more dominant
symbol: it sets the idle run to 0, the run of dominant symbols goes on from where the last symbol counted left it, and its 64th makes the line
STUCK as LINE_STUCK does; on a STUCK line the run rests at 64; while the node itself drives a veto the run is held at 0. That START_SYMBOL stands
for the dominant symbols that no row reports, that those of a tracked frame come with the event that ends it, and that the run rests at 64 is the
model's choice (logs 9, 11 and 32). -/
def Obligations.DiscardsStartsAndSuspensions : Prop :=
  ∀ s : State, Live s →
    let next := match s.line.driver with
      | .veto _ => 0
      | .released | .frame => s.line.dominantRun + 1
    let outside := s.line.track = .none ∨ s.line.track = .trailing
    (∀ view, s.receives = true → LineView.discards view = true → exec (.frameDiscarded view) s = .next (s.setLine { s.line with
        track := .none, driver := .released, vetoDue := none, idleRun := 0, dominantRun := view.dominantRun, acked := s.mayDrive, tx := [],
        elapsed := 0 }))
    ∧ (s.onLine = true → s.line.lineState = .idle → exec .startSymbol s = .next (s.setLine { s.line with
        lineState := .busy, track := .receiving, driver := .released, vetoDue := none, idleRun := 0, dominantRun := 1,
        suspension := false, elapsed := 0 }))
    ∧ (s.onLine = true → s.line.lineState = .busy → outside → next < 64 →
        exec .startSymbol s = .next (s.setLine { s.line with idleRun := 0, dominantRun := next, elapsed := 0 }))
    ∧ (s.onLine = true → s.line.lineState = .busy → outside → 64 ≤ next → exec .startSymbol s = exec .lineStuck s)
    ∧ (s.onLine = true → s.line.lineState = .stuck → outside →
        exec .startSymbol s = .next (s.setLine { s.line with idleRun := 0, dominantRun := min next 64, elapsed := 0 }))
    ∧ (s.onLine = true → s.line.lineState ≠ .idle → ¬outside → exec .startSymbol s = .next s)
    ∧ (s.onLine = true → s.line.track = .none → s.line.suspension = true → 10 ≤ s.line.idleRun → s.line.idleRun < 18 →
        exec .suspensionEnd s = .next (s.setLine { s.line with suspension := false, idleRun := 18 }))

/-- QUIET_INTERVAL: a BUSY line becomes IDLE; a stuck episode ends; a SILENT node counts it, and the 96th recovers the node. LINE_STUCK:
the line is STUCK, the sticky flag is set and LINE_STUCK SET is posted. Neither can come before the last symbol of a veto of this node, so a
due one has begun, and been counted, and a driven one is over (the model's choice, log 14). -/
def Obligations.QuietIntervalsAndTheStuckLine : Prop :=
  (∀ (s : State) (ties : Ties), Live s → s.onLine = true → (s.line.track = .none ∨ s.line.track = .trailing) →
    ∃ t, exec (.quietInterval ties) s = .next t ∧ t.line.lineState = .idle ∧ t.line.track = .none ∧ t.line.driver = .released
      ∧ t.line.vetoDue = none ∧ t.line.dominantRun = 0
      ∧ (s.line.vetoDue = none ∨ s.mayVeto = false → t.line.idleRun = 10 * (s.line.idleRun / 10 + 1)
          ∧ t.counters.take 7 = s.counters.take 7)
      ∧ (s.line.vetoDue ≠ none → s.mayVeto = true → t.line.idleRun = 10 ∧ t.counters.take 7 = (bump 4 1 s.counters).take 7)
      ∧ (s.standingUnit.standing ≠ .silent → t.standingUnit = s.standingUnit ∧ t.membership = s.membership)
      ∧ (s.standingUnit.standing ≠ .silent → s.line.lineState ≠ .stuck → t.notices = s.notices
          ∧ (s.line.vetoDue = none → t.counters = s.counters))
      ∧ (s.standingUnit.standing = .silent → s.standingUnit.quiet + 1 < 96 →
          t.standingUnit = { s.standingUnit with quiet := s.standingUnit.quiet + 1 } ∧ t.membership = s.membership)
      ∧ (s.standingUnit.standing = .silent → 96 ≤ s.standingUnit.quiet + 1 →
          t.standingUnit = { s.standingUnit with sendFaults := 0, recvFaults := 0, standing := .active, quiet := 0 }
          ∧ (s.node = .cutOff → t.node = if s.loader.params.autoRecovery then .listening else .cutOff))
      ∧ ChangesOnly [.line, .driver, .standing, .level, .membership, .node, .counters, .lineCounters, .notices, .posted] s t)
  ∧ ∀ s : State, Live s → s.onLine = true → s.line.lineState ≠ .stuck →
    let elapsed := if s.line.track = .sending then s.line.elapsed else 0
    ((s.line.vetoDue = none ∨ s.mayVeto = false) → (∀ left, s.line.driver ≠ .veto left) →
      exec .lineStuck s = .next (post ⟨.lineStuck, none, 0, s.cycle.number, 1⟩
        ((s.setLine { s.line with
          lineState := .stuck, vetoDue := none, idleRun := 0, dominantRun := 64, elapsed := elapsed }).setStandingUnit
          { s.standingUnit with lineStuckSeen := true })))
    ∧ (∀ left, s.line.vetoDue = none → s.line.driver = .veto left →
      exec .lineStuck s = .next (post ⟨.lineStuck, none, 0, s.cycle.number, 1⟩
        ((s.setLine { s.line with
          lineState := .stuck, driver := .released, vetoDue := none, idleRun := 0, dominantRun := 64, elapsed := elapsed }).setStandingUnit
          { s.standingUnit with lineStuckSeen := true })))
    ∧ (s.line.vetoDue ≠ none → s.mayVeto = true →
      exec .lineStuck s = .next (post ⟨.lineStuck, none, 0, s.cycle.number, 1⟩
        (((s.setCounters (bump 4 1 s.counters)).setLine
          { s.line with
            lineState := .stuck, driver := .released, vetoDue := none, idleRun := 0, dominantRun := 64, elapsed := elapsed }).setStandingUnit
          { s.standingUnit with lineStuckSeen := true })))

/-! ## Standing, counters, notices -/

/-- RECOVERY at 96 quiet intervals, and WINDOW_CLOSE at 32 observations: what each leaves. -/
def Obligations.RecoveryAndWindowClose : Prop :=
  ∀ s : State, Live s → s.onLine = true →
    (∀ ties, s.standingUnit.standing = .silent → 96 ≤ s.standingUnit.quiet → ∃ t, exec (.recovery ties) s = .next t
      ∧ t.standingUnit = { s.standingUnit with sendFaults := 0, recvFaults := 0, standing := .active, quiet := 0 }
      ∧ (s.node = .cutOff → t.node = if s.loader.params.autoRecovery then .listening else .cutOff)
      ∧ ChangesOnly [.standing, .level, .membership, .node, .counters, .notices, .posted] s t)
    ∧ (32 ≤ s.standingUnit.observations →
        (8 ≤ s.standingUnit.faults → s.standingUnit.highError = false →
          exec .windowClose s = .next (post ⟨.highError, none, 0, s.cycle.number, 1⟩ (s.setStandingUnit { s.standingUnit with
            observations := 0, faults := 0, highError := true, highErrorSeen := true })))
        ∧ (8 ≤ s.standingUnit.faults → s.standingUnit.highError = true →
          exec .windowClose s = .next (s.setStandingUnit { s.standingUnit with
            observations := 0, faults := 0, highErrorSeen := true }))
        ∧ (s.standingUnit.faults < 8 → (2 ≤ s.standingUnit.faults ∨ s.standingUnit.highError = false) →
          exec .windowClose s = .next (s.setStandingUnit { s.standingUnit with observations := 0, faults := 0 }))
        ∧ (s.standingUnit.faults < 2 → s.standingUnit.highError = true →
          exec .windowClose s = .next (post ⟨.highError, none, 0, s.cycle.number, 0⟩ (s.setStandingUnit { s.standingUnit with
            observations := 0, faults := 0, highError := false }))))

/-- An increment adds its amount and rests at 65535; it posts THRESHOLD exactly when it passes the counter's threshold. -/
def Obligations.CountersSaturateAndPassThresholds : Prop :=
  ∀ (s : State) (id : CounterId) (n : Nat), CountersSound s →
    (count id n s).counters = s.counters.set id.number (min (s.counters.getD id.number 0 + n) 65535)
    ∧ (∀ thr, s.loader.params.threshold id = some thr →
        (s.counters.getD id.number 0 ≤ thr → thr < min (s.counters.getD id.number 0 + n) 65535 →
          (count id n s).notices.outbox = s.notices.outbox ++ [⟨.threshold, none, 0, s.cycle.number, byte id.number⟩])
        ∧ (thr < s.counters.getD id.number 0 ∨ min (s.counters.getD id.number 0 + n) 65535 ≤ thr →
          (count id n s).notices = s.notices))
    ∧ (s.loader.params.threshold id = none → (count id n s).notices = s.notices)

/-- A post: a kind outside the record mask is discarded and counts nothing; with fewer than 32 records it joins the end; else it is an
overflow, and the policy decides what is lost. -/
def Obligations.PostsAreQueuedOrOverflow : Prop :=
  ∀ (s : State) (n : Notice), NoticesSound s →
    (s.loader.params.recordMask.getLsbD n.kind.code = false → post n s = s)
    ∧ (s.loader.params.recordMask.getLsbD n.kind.code = true → s.notices.list.length < 32 →
        post n s = s.setNotices { s.notices with
          list := s.notices.list ++ [n]
          attn := attnOf s.loader.params (s.notices.list ++ [n]) s.notices.overflow })
    ∧ (s.loader.params.recordMask.getLsbD n.kind.code = true → s.notices.list.length = 32 →
        (post n s).notices.overflow = true
        ∧ (post n s).counters = s.counters.set 12 (min (s.counters.getD 12 0 + 1) 65535)
        ∧ (s.loader.params.noticeOverflow = .keepOld → (post n s).notices.list = s.notices.list)
        ∧ (s.loader.params.noticeOverflow = .keepNew → (post n s).notices.list = s.notices.list.take 31 ++ [n])
        ∧ (post n s).notices.attn = attnOf s.loader.params (post n s).notices.list true)

/-! ## Membership, cycle, cells and slots -/

/-- SILENCE_DEPARTURE: the entry becomes ABSENT with silence 0 and its reported fields kept, its FOLLOW replicas become LOST, the cells yielded
to it are regained and in MEMBER get their JOIN triggers, the slots whose cell it owned fail, and the places of their waiting entries are given
to those that wait. At every cycle start, local, by loss of sync, or marked by a mark taken or by
the node's own mark, the Roster ages, the sender of a mark taken excepted, and a station silent for too long departs so. -/
def Obligations.SilentStationsDepart : Prop :=
  (∀ (s : State) (st : Station) (ties : Ties), Live s → ShapeSound s → s.onLine = true → st ≠ 0 →
    ((s.entry st).state = .present ∨ (s.entry st).state = .foreign) → 3 * s.loader.params.presenceInterval < (s.entry st).silence →
    ∃ t, exec (.silenceDeparture st ties) s = .next t
      ∧ t.entry st = { s.entry st with state := .absent, silence := 0 }
      ∧ (∀ u, u ≠ st → t.entry u = s.entry u)
      ∧ (∀ c, (s.cell c).eff = .follow → (s.cell c).owner = st →
          ((s.cell c).freshness = .fresh ∨ (s.cell c).freshness = .stale) → t.cell c = { s.cell c with freshness := .lost })
      ∧ (∀ c, (s.cell c).eff = .yielded → (s.cell c).owner = st →
          t.cell c = { s.cell c with eff := .own, owner := s.own, freshness := .never, age := 0 })
      ∧ (SlotsSound s → QueueSound s → QueueAtDeparture st ties.fetchFirst s t)
      ∧ (∀ c, (s.cell c).owner ≠ st → t.cell c = s.cell c)
      ∧ (∀ i, (t.slot i).inUse = true → (s.cell (t.slot i).cell).eff = .follow → (s.cell (t.slot i).cell).owner ≠ st)
      ∧ ChangesOnly [.membership, .cells, .sendQueue, .slots, .counters, .notices, .posted] s t)
  ∧ ∀ (s : State) (ties : Ties), Live s → ShapeSound s → SlotsSound s → s.onLine = true →
    AtEveryCycleStart s ties fun _ sender t => RosterAdvances sender s t

/-- LISTEN_WINDOW_END: MEMBER by marks or by the window; presence filled; every OWN cell loses its held flag and gets a JOIN trigger, in
ascending order (where the presence stands among them in the arrival order is log 33); an eligible node
takes the lead by window with no mark heard, and else starts its takeover timer. PRESENCE_FILL in MEMBER: the presence count returns to
0 and the presence entry is filled; a filled one keeps its attempts and its place. At every cycle start a listening node counts its tallies and
becomes MEMBER at their end, and a member counts towards its presence. -/
def Obligations.ListenWindowAndPresence : Prop :=
  (∀ (s : State) (ties : Ties), Live s → s.node = .listening →
    (2 ≤ s.membership.markTally ∨ s.loader.params.listenWindow ≤ s.membership.startTally) →
    ∃ t, exec (.listenWindowEnd ties) s = .next t ∧ t.node = .member ∧ t.membership.presenceCount = 0
      ∧ t.membership.presence.filled = true
      ∧ t.cells = s.cells.map (fun r => if r.eff = .own then { r with held := false } else r)
      ∧ (∃ n, TriggeredAll .join (s.cellsWhere fun r => r.eff == .own) { s.sendQueue with nextArrival := n } t.sendQueue)
      ∧ (s.loader.params.leadEligible = true → s.membership.markTally = 0 →
          t.cycle = { s.cycle with lead := true, mark := .waiting, markNumber := s.cycle.number + 1, takeover := none })
      ∧ (s.loader.params.leadEligible = true → s.membership.markTally ≠ 0 → t.cycle = { s.cycle with takeover := some 0 })
      ∧ (s.loader.params.leadEligible = false → t.cycle = s.cycle)
      ∧ ChangesOnly [.membership, .node, .cycle, .lead, .cells, .sendQueue, .counters, .notices, .posted] s t)
  ∧ (∀ s : State, Live s → s.node = .member → s.loader.params.presenceInterval ≤ s.membership.presenceCount →
    ∃ t, exec .presenceFill s = .next t ∧ t.membership.presenceCount = 0 ∧ t.membership.presence.filled = true
      ∧ (s.membership.presence.filled = true → t.membership.presence = s.membership.presence ∧ t.sendQueue = s.sendQueue)
      ∧ (s.membership.presence.filled = false → t.membership.presence.attempts = 0 ∧ t.membership.presence.leaving = false)
      ∧ t.sendQueue.entries = s.sendQueue.entries ∧ t.membership.roster = s.membership.roster
      ∧ ChangesOnly [.membership, .sendQueue] s t)
  ∧ ∀ (s : State) (ties : Ties), Live s → ShapeSound s → SlotsSound s → s.onLine = true →
    AtEveryCycleStart s ties fun _ sender t => ListenAdvances sender s t ∧ PresenceAdvances s t

/-- LOCAL_CYCLE_START: the number increases by 1, the cycle timer restarts, the mark timer does not, a lead's WAITING mark is
renumbered, and nothing is frozen. LOSS_OF_SYNC: UNSYNCED, SYNC_HELD 0, and a local cycle start at the same moment; the lead stands.
That the time up to the cycle timer's limit passes first, and is added to the mark timer, is the model's choice (log 4). -/
def Obligations.LocalCycleStartCounts : Prop :=
  (∀ (s : State) (ties : Ties), Live s → s.onLine = true → s.cycle.synced = false →
    s.cycle.cycleTimer ≤ s.loader.params.periodUnits →
    ∃ t, exec (.localCycleStart ties) s = .next t ∧ t.cycle.number = s.cycle.number + 1 ∧ t.cycle.cycleTimer = 0
      ∧ t.cycle.markTimer = s.cycle.markTimer + (s.loader.params.periodUnits - s.cycle.cycleTimer) ∧ t.cycle.synced = false
      ∧ (s.node = .member → s.cycle.lead = true → s.cycle.mark = .waiting →
          t.cycle.lead = true ∧ t.cycle.mark = .waiting ∧ t.cycle.markNumber = s.cycle.number + 2)
      ∧ (s.node = .member → s.cycle.lead = true → s.cycle.mark = .inFlight →
          t.cycle.lead = true ∧ t.cycle.mark = .inFlight ∧ t.cycle.markNumber = s.cycle.markNumber)
      ∧ ChangesOnly [.membership, .node, .line, .driver, .cycle, .clock, .lead, .cells, .sendQueue, .slots, .counters, .lineCounters, .notices,
          .posted] s t)
  ∧ ∀ (s : State) (ties : Ties), Live s → s.onLine = true → s.cycle.synced = true →
    ∃ t, exec (.lossOfSync ties) s = .next t ∧ t.cycle.synced = false ∧ t.cycle.syncHeld = false
      ∧ t.cycle.number = s.cycle.number + 1 ∧ t.cycle.cycleTimer = 0
      ∧ (s.node ≠ .listening → t.cycle.lead = s.cycle.lead)
      ∧ ChangesOnly [.membership, .node, .line, .driver, .cycle, .clock, .lead, .cells, .sendQueue, .slots, .counters, .lineCounters, .notices,
          .posted] s t

/-- MARK_FILL at a lead whose mark entry is EMPTY, and TAKEOVER at an eligible member: what each leaves. That the time up to the limit of the
timer passes first, for the other timers, for a veto and at the line, is the model's choice (logs 4, 14, 32 and 35). -/
def Obligations.MarkFillAndTakeover : Prop :=
  ∀ s : State, Live s →
    (s.onLine = true → s.cycle.lead = true → s.cycle.mark = .empty → s.cycle.cycleTimer ≤ s.loader.params.periodUnits →
      exec .markFill s = .next ((passVeto (s.loader.params.periodUnits - s.cycle.cycleTimer)
        (passSymbols (s.loader.params.periodUnits - s.cycle.cycleTimer) s)).setCycle { s.cycle with
        cycleTimer := s.loader.params.periodUnits
        markTimer := s.cycle.markTimer + (s.loader.params.periodUnits - s.cycle.cycleTimer)
        takeover := s.cycle.takeover.map (· + (s.loader.params.periodUnits - s.cycle.cycleTimer))
        mark := .waiting
        markNumber := s.cycle.number + 1 }))
    ∧ (∀ n, s.node = .member → s.loader.params.leadEligible = true → s.cycle.lead = false → s.standingUnit.standing ≠ .silent →
        s.cycle.takeover = some n →
        exec .takeover s = .next (post ⟨.leadTaken, none, s.own, s.cycle.number, 1⟩
          ((passVeto (s.loader.params.takeoverUnits - n) (passSymbols (s.loader.params.takeoverUnits - n) s)).setCycle { s.cycle with
          cycleTimer := s.cycle.cycleTimer + (s.loader.params.takeoverUnits - n)
          markTimer := s.cycle.markTimer + (s.loader.params.takeoverUnits - n)
          takeover := none
          lead := true
          mark := .waiting
          markNumber := s.cycle.number + 1 })))

/-- CELL_STALE, CELL_LOST and CLAIM_REGAINED: the freshness moves, the notice is posted, the value stands; a regained cell is OWN again, and in
MEMBER gets a JOIN trigger. GAP_END: the held flag is cleared and in MEMBER a CHANGE trigger raised. FETCH_TRY_END: another round while tries
remain, with a FETCH entry asked for, else FETCH_FAILED with TIMEOUT. At every cycle start the AWAITING slots count down and their tries end so, the
slots whose owner departs fail and their waiting entries go, the other entries stay, and no free place waits for one that could have it. -/
def Obligations.ReplicasGapsAndTriesEnd : Prop :=
  (∀ (s : State) (c : CellNo), Live s → s.onLine = true → 0 < (s.cell c).cfg.expected →
    (((s.cell c).eff = .follow ∨ (s.cell c).eff = .yielded) → (s.cell c).freshness = .fresh →
      (s.cell c).cfg.expected < (s.cell c).age →
      exec (.cellStale c) s = .next (post ⟨.cellStale, some c, (s.cell c).owner, s.cycle.number, byte (s.cell c).age⟩
        (s.setCell c { s.cell c with freshness := .stale })))
    ∧ ((s.cell c).eff = .follow → (s.cell c).freshness = .stale →
        (4 * (s.cell c).cfg.expected < (s.cell c).age ∨ (s.cell c).cfg.expected = 64 ∧ (s.cell c).age = 255) →
      exec (.cellLost c) s = .next (post ⟨.cellLost, some c, (s.cell c).owner, s.cycle.number, 0⟩
        (s.setCell c { s.cell c with freshness := .lost })))
    ∧ (∀ ties, (s.cell c).eff = .yielded → (s.cell c).freshness = .stale →
        (4 * (s.cell c).cfg.expected < (s.cell c).age ∨ (s.cell c).cfg.expected = 64 ∧ (s.cell c).age = 255) →
      ∃ t, exec (.claimRegained c ties) s = .next t
        ∧ t.cells = s.cells.set c.toNat { s.cell c with eff := .own, owner := s.own, freshness := .never, age := 0 }
        ∧ (s.node = .member → Triggered c .join s.sendQueue t.sendQueue)
        ∧ (s.node ≠ .member → t.sendQueue = s.sendQueue)
        ∧ ChangesOnly [.cells, .sendQueue, .counters, .notices, .posted] s t))
  ∧ (∀ s : State, Live s → s.onLine = true →
    (∀ c : CellNo, (s.cell c).eff = .own → (s.cell c).cfg.policy = .onChange → (s.cell c).gapCount = 0 → (s.cell c).held = true →
      ∃ t, exec (.gapEnd c) s = .next t ∧ t.cells = s.cells.set c.toNat { s.cell c with held := false }
        ∧ (s.node = .member → Triggered c .change s.sendQueue t.sendQueue)
        ∧ (s.node ≠ .member → t.sendQueue = s.sendQueue)
        ∧ ChangesOnly [.cells, .sendQueue, .counters, .notices, .posted] s t)
    ∧ (∀ i : Fin 4, (s.slot i.val).state = .awaiting → (s.slot i.val).timer = 0 →
        ((s.slot i.val).tries < s.loader.params.fetchTries →
          ∃ t, exec (.fetchTryEnd i) s = .next t
            ∧ t.slots = s.slots.set i.val ⟨.requesting, (s.slot i.val).cell, (s.slot i.val).tries + 1, 0⟩
            ∧ (s.sendQueue.has (s.slot i.val).cell = true → t.sendQueue = { s.sendQueue with entries := s.sendQueue.entries.map (fun e =>
                if e.cell = (s.slot i.val).cell then { e with cancelRequested := false } else e) })
            ∧ (s.sendQueue.has (s.slot i.val).cell = false → s.node = .member → s.sendQueue.entries.length < 16 →
                t.sendQueue = { s.sendQueue with
                  entries := s.sendQueue.entries
                    ++ [⟨.fetch, (s.slot i.val).cell, .request, 0, s.sendQueue.nextArrival, false⟩]
                  nextArrival := s.sendQueue.nextArrival + 1 })
            ∧ (s.sendQueue.has (s.slot i.val).cell = false → (s.node ≠ .member ∨ 16 ≤ s.sendQueue.entries.length) →
                t.sendQueue = s.sendQueue)
            ∧ ChangesOnly [.slots, .sendQueue] s t)
        ∧ (s.loader.params.fetchTries ≤ (s.slot i.val).tries →
          exec (.fetchTryEnd i) s = .next (post ⟨.fetchFailed, some (s.slot i.val).cell, (s.cell (s.slot i.val).cell).owner,
            s.cycle.number, 0⟩ (s.setSlots (s.slots.set i.val ⟨.free, 0, 0, 0⟩))))))
  ∧ ∀ (s : State) (ties : Ties), Live s → ShapeSound s → SlotsSound s → s.onLine = true →
    AtEveryCycleStart s ties fun _ sender t => SlotsAdvance sender s t

/-- At every cycle start, local, by loss of sync, or marked by a mark taken or by the node's own mark, gaps count down and end, every replica
whose owner does not depart ages and becomes STALE above E, LOST or regained above four times E, and in MEMBER every CYCLIC cell whose
period divides the number minus its phase gets a CYCLIC trigger, every gap's end a CHANGE trigger, and every regained cell a JOIN trigger. -/
def Obligations.CyclicCellsAreTriggered : Prop :=
  ∀ (s : State) (ties : Ties), Live s → ShapeSound s → SlotsSound s → s.onLine = true →
    AtEveryCycleStart s ties fun n sender t => CellsAdvance n sender s t

/-! ## Encodings -/

/-- A frame sent alone and acknowledged is taken by a receiver with every field as it was sent, whatever resync symbols it needs; and
every frame a receiver takes is well formed. -/
def Obligations.ReceiverReadsWhatTheSenderSends : Prop :=
  (∀ f : Frame, f.wellFormed = true → receive f.onLine = .taken f)
    ∧ ∀ (view : FrameView) (f : Frame), view.frame? = some f → f.wellFormed = true

/-- The bytes of every request make that request again, whatever bytes follow them; a DETACH takes the resolution it is given, and a WRCELL of more
than 16 bytes keeps its length alone (DEDUCED, log 16: no value byte of it is read). The bits sampled on PDI make the bytes, most significant bit
first, and a byte cut short makes none. PDO carries FFh while the code byte and the operand bytes are clocked, then the response, then FFh, each
byte most significant bit first; of a transaction cut short every bit is clocked as code or operand, also those of a byte not completed, and carries
the same; with PSEL high it is released. -/
def Obligations.RequestBytesMakeTheRequest : Prop :=
  (∀ (i : Instr) (ties : Ties) (bytes extra : List Byte), i.wellFormed = true → requestBytes i = some bytes →
    (∀ t, i = .detach t → commandOf ties (bytes ++ extra) = .detach ties)
    ∧ (∀ c vs, i = .wrcell c vs → 16 < vs.length → commandOf ties (bytes ++ extra) = .wrcell c (List.replicate vs.length 0))
    ∧ ((∀ t, i ≠ .detach t) → (∀ c vs, i = .wrcell c vs → vs.length ≤ 16) → commandOf ties (bytes ++ extra) = i))
  ∧ (∀ (i : Instr) (bytes extra response : List Byte) (k : Nat) (bit : Fin 8), i.wellFormed = true → requestBytes i = some bytes →
    let operands := match i with
      | .wrcell _ vs => if 16 < vs.length then 3 else bytes.length
      | _ => bytes.length
    pdoLevel false (bytes ++ extra) response (8 * k + bit.val) = none
    ∧ (k < operands → pdoLevel true (bytes ++ extra) response (8 * k + bit.val) = some true)
    ∧ (operands ≤ k → k < operands + response.length →
        pdoLevel true (bytes ++ extra) response (8 * k + bit.val) = some ((response.getD (k - operands) 0).getLsbD (7 - bit.val)))
    ∧ (operands + response.length ≤ k → pdoLevel true (bytes ++ extra) response (8 * k + bit.val) = some true))
  ∧ (∀ (bytes : List Byte) (cut : List Level), cut.length < 8 → pdiBytes (bytes.flatMap bitsOf ++ cut) = bytes)
  ∧ ∀ (bytes response : List Byte) (i : Nat), commandOf Ties.default bytes = .transactionAbort → pdoLevel true bytes response i = some true

/-! ## Invariants -/

/-- The state after reset has the values the manual gives for a hard reset with STLOAD clear, and every invariant below holds
there. That the straps are clear is log 1, and that no veto is due and no read request has been sent is log 21. -/
def Obligations.ResetStateHasResetValuesAndIsSound : Prop :=
  (RuntimeAtReset State.reset ∧ ConfigurationAtReset State.reset ∧ State.reset.node = .config ∧ State.reset.inReset = false
    ∧ State.reset.pending = [])
  ∧ NoticesSound State.reset ∧ QueueSound State.reset ∧ CountersSound State.reset ∧ ShapeSound State.reset ∧ SnapshotsSound State.reset
    ∧ DriverBounded State.reset ∧ StandingSound State.reset ∧ LeadSound State.reset ∧ SlotsSound State.reset ∧ ValuesFit State.reset
    ∧ FrozenSound State.reset

/-- Every step keeps the Notice Queue sound: nothing on its way, at most 32 records, ATTN as R161 says. -/
def Obligations.StepKeepsNoticesSound : Prop := ∀ s t : State, NoticesSound s → step s = .next t → NoticesSound t

/-- Every step keeps at most 16 entries in the send queue, no cell in two, and the deferred cells in ascending order; fetch slots in use only in
MEMBER, no cell in two, each with a FOLLOW cell; and the snapshot areas sound. -/
def Obligations.StepKeepsQueueSlotsAndAreas : Prop :=
  ∀ s t : State, step s = .next t →
    (QueueSound s → QueueSound t) ∧ (ShapeSound s → SlotsSound s → SlotsSound t) ∧ (SnapshotsSound s → SnapshotsSound t)

/-- Every step keeps thirteen counters of at most 65535, 256 cells, 31 Roster entries, four slots, and every value at its length. -/
def Obligations.StepKeepsShapesAndValues : Prop :=
  ∀ s t : State, step s = .next t →
    (CountersSound s → CountersSound t) ∧ (ShapeSound s → ShapeSound t) ∧ (ValuesFit s → ValuesFit t)

/-- Every step keeps the standing fitted to the counts, a SILENT node off the line, the driver within its bounds, a veto with an ACTIVE node,
and the lead with an eligible member. -/
def Obligations.StepKeepsStandingDriverAndLead : Prop :=
  ∀ s t : State, StandingSound s → DriverBounded s → LeadSound s → step s = .next t →
    StandingSound t ∧ DriverBounded t ∧ LeadSound t

/-- A frozen configuration changes only by RESTART or a hard reset; and the configuration is frozen in no open state. -/
def Obligations.FrozenConfigurationStands : Prop :=
  ∀ s t : State, FrozenSound s → step s = .next t →
    FrozenSound t
    ∧ (s.loader.frozen = true →
        (∀ rest, s.pending ≠ .hardReset :: rest) → (∀ levels rest, s.pending ≠ .resetRelease levels :: rest) →
        (∀ rest, s.pending ≠ .restart :: rest) →
        t.loader = s.loader ∧ t.cells.map CellRecord.cfg = s.cells.map CellRecord.cfg)
end

