-- ==== Sys2Proof/Laws/State.lean ====
section
/-! SUPPORT. What each write of one block does to every block. -/

namespace Sys2Proof.Machine

set_option Elab.async false

/-! ### `setPending` -/

@[simp] theorem State.setPending_pending (s : State) (x : List Instr) : (s.setPending x).pending = x := rfl
@[simp] theorem State.setPending_inReset (s : State) (x : List Instr) : (s.setPending x).inReset = s.inReset := rfl
@[simp] theorem State.setPending_pselHeld (s : State) (x : List Instr) : (s.setPending x).pselHeld = s.pselHeld := rfl
@[simp] theorem State.setPending_port (s : State) (x : List Instr) : (s.setPending x).port = s.port := rfl
@[simp] theorem State.setPending_line (s : State) (x : List Instr) : (s.setPending x).line = s.line := rfl
@[simp] theorem State.setPending_standingUnit (s : State) (x : List Instr) : (s.setPending x).standingUnit = s.standingUnit := rfl
@[simp] theorem State.setPending_counters (s : State) (x : List Instr) : (s.setPending x).counters = s.counters := rfl
@[simp] theorem State.setPending_membership (s : State) (x : List Instr) : (s.setPending x).membership = s.membership := rfl
@[simp] theorem State.setPending_cycle (s : State) (x : List Instr) : (s.setPending x).cycle = s.cycle := rfl
@[simp] theorem State.setPending_cells (s : State) (x : List Instr) : (s.setPending x).cells = s.cells := rfl
@[simp] theorem State.setPending_sendQueue (s : State) (x : List Instr) : (s.setPending x).sendQueue = s.sendQueue := rfl
@[simp] theorem State.setPending_slots (s : State) (x : List Instr) : (s.setPending x).slots = s.slots := rfl
@[simp] theorem State.setPending_snapshots (s : State) (x : List Instr) : (s.setPending x).snapshots = s.snapshots := rfl
@[simp] theorem State.setPending_notices (s : State) (x : List Instr) : (s.setPending x).notices = s.notices := rfl
@[simp] theorem State.setPending_loader (s : State) (x : List Instr) : (s.setPending x).loader = s.loader := rfl
@[simp] theorem State.setPending_draws (s : State) (x : List Instr) : (s.setPending x).draws = s.draws := rfl

/-! ### `setInReset` -/

@[simp] theorem State.setInReset_pending (s : State) (x : Bool) : (s.setInReset x).pending = s.pending := rfl
@[simp] theorem State.setInReset_inReset (s : State) (x : Bool) : (s.setInReset x).inReset = x := rfl
@[simp] theorem State.setInReset_pselHeld (s : State) (x : Bool) : (s.setInReset x).pselHeld = s.pselHeld := rfl
@[simp] theorem State.setInReset_port (s : State) (x : Bool) : (s.setInReset x).port = s.port := rfl
@[simp] theorem State.setInReset_line (s : State) (x : Bool) : (s.setInReset x).line = s.line := rfl
@[simp] theorem State.setInReset_standingUnit (s : State) (x : Bool) : (s.setInReset x).standingUnit = s.standingUnit := rfl
@[simp] theorem State.setInReset_counters (s : State) (x : Bool) : (s.setInReset x).counters = s.counters := rfl
@[simp] theorem State.setInReset_membership (s : State) (x : Bool) : (s.setInReset x).membership = s.membership := rfl
@[simp] theorem State.setInReset_cycle (s : State) (x : Bool) : (s.setInReset x).cycle = s.cycle := rfl
@[simp] theorem State.setInReset_cells (s : State) (x : Bool) : (s.setInReset x).cells = s.cells := rfl
@[simp] theorem State.setInReset_sendQueue (s : State) (x : Bool) : (s.setInReset x).sendQueue = s.sendQueue := rfl
@[simp] theorem State.setInReset_slots (s : State) (x : Bool) : (s.setInReset x).slots = s.slots := rfl
@[simp] theorem State.setInReset_snapshots (s : State) (x : Bool) : (s.setInReset x).snapshots = s.snapshots := rfl
@[simp] theorem State.setInReset_notices (s : State) (x : Bool) : (s.setInReset x).notices = s.notices := rfl
@[simp] theorem State.setInReset_loader (s : State) (x : Bool) : (s.setInReset x).loader = s.loader := rfl
@[simp] theorem State.setInReset_draws (s : State) (x : Bool) : (s.setInReset x).draws = s.draws := rfl

/-! ### `setPselHeld` -/

@[simp] theorem State.setPselHeld_pending (s : State) (x : Bool) : (s.setPselHeld x).pending = s.pending := rfl
@[simp] theorem State.setPselHeld_inReset (s : State) (x : Bool) : (s.setPselHeld x).inReset = s.inReset := rfl
@[simp] theorem State.setPselHeld_pselHeld (s : State) (x : Bool) : (s.setPselHeld x).pselHeld = x := rfl
@[simp] theorem State.setPselHeld_port (s : State) (x : Bool) : (s.setPselHeld x).port = s.port := rfl
@[simp] theorem State.setPselHeld_line (s : State) (x : Bool) : (s.setPselHeld x).line = s.line := rfl
@[simp] theorem State.setPselHeld_standingUnit (s : State) (x : Bool) : (s.setPselHeld x).standingUnit = s.standingUnit := rfl
@[simp] theorem State.setPselHeld_counters (s : State) (x : Bool) : (s.setPselHeld x).counters = s.counters := rfl
@[simp] theorem State.setPselHeld_membership (s : State) (x : Bool) : (s.setPselHeld x).membership = s.membership := rfl
@[simp] theorem State.setPselHeld_cycle (s : State) (x : Bool) : (s.setPselHeld x).cycle = s.cycle := rfl
@[simp] theorem State.setPselHeld_cells (s : State) (x : Bool) : (s.setPselHeld x).cells = s.cells := rfl
@[simp] theorem State.setPselHeld_sendQueue (s : State) (x : Bool) : (s.setPselHeld x).sendQueue = s.sendQueue := rfl
@[simp] theorem State.setPselHeld_slots (s : State) (x : Bool) : (s.setPselHeld x).slots = s.slots := rfl
@[simp] theorem State.setPselHeld_snapshots (s : State) (x : Bool) : (s.setPselHeld x).snapshots = s.snapshots := rfl
@[simp] theorem State.setPselHeld_notices (s : State) (x : Bool) : (s.setPselHeld x).notices = s.notices := rfl
@[simp] theorem State.setPselHeld_loader (s : State) (x : Bool) : (s.setPselHeld x).loader = s.loader := rfl
@[simp] theorem State.setPselHeld_draws (s : State) (x : Bool) : (s.setPselHeld x).draws = s.draws := rfl

/-! ### `setPort` -/

@[simp] theorem State.setPort_pending (s : State) (x : Port) : (s.setPort x).pending = s.pending := rfl
@[simp] theorem State.setPort_inReset (s : State) (x : Port) : (s.setPort x).inReset = s.inReset := rfl
@[simp] theorem State.setPort_pselHeld (s : State) (x : Port) : (s.setPort x).pselHeld = s.pselHeld := rfl
@[simp] theorem State.setPort_port (s : State) (x : Port) : (s.setPort x).port = x := rfl
@[simp] theorem State.setPort_line (s : State) (x : Port) : (s.setPort x).line = s.line := rfl
@[simp] theorem State.setPort_standingUnit (s : State) (x : Port) : (s.setPort x).standingUnit = s.standingUnit := rfl
@[simp] theorem State.setPort_counters (s : State) (x : Port) : (s.setPort x).counters = s.counters := rfl
@[simp] theorem State.setPort_membership (s : State) (x : Port) : (s.setPort x).membership = s.membership := rfl
@[simp] theorem State.setPort_cycle (s : State) (x : Port) : (s.setPort x).cycle = s.cycle := rfl
@[simp] theorem State.setPort_cells (s : State) (x : Port) : (s.setPort x).cells = s.cells := rfl
@[simp] theorem State.setPort_sendQueue (s : State) (x : Port) : (s.setPort x).sendQueue = s.sendQueue := rfl
@[simp] theorem State.setPort_slots (s : State) (x : Port) : (s.setPort x).slots = s.slots := rfl
@[simp] theorem State.setPort_snapshots (s : State) (x : Port) : (s.setPort x).snapshots = s.snapshots := rfl
@[simp] theorem State.setPort_notices (s : State) (x : Port) : (s.setPort x).notices = s.notices := rfl
@[simp] theorem State.setPort_loader (s : State) (x : Port) : (s.setPort x).loader = s.loader := rfl
@[simp] theorem State.setPort_draws (s : State) (x : Port) : (s.setPort x).draws = s.draws := rfl

/-! ### `setLine` -/

@[simp] theorem State.setLine_pending (s : State) (x : LineInterface) : (s.setLine x).pending = s.pending := rfl
@[simp] theorem State.setLine_inReset (s : State) (x : LineInterface) : (s.setLine x).inReset = s.inReset := rfl
@[simp] theorem State.setLine_pselHeld (s : State) (x : LineInterface) : (s.setLine x).pselHeld = s.pselHeld := rfl
@[simp] theorem State.setLine_port (s : State) (x : LineInterface) : (s.setLine x).port = s.port := rfl
@[simp] theorem State.setLine_line (s : State) (x : LineInterface) : (s.setLine x).line = x := rfl
@[simp] theorem State.setLine_standingUnit (s : State) (x : LineInterface) : (s.setLine x).standingUnit = s.standingUnit := rfl
@[simp] theorem State.setLine_counters (s : State) (x : LineInterface) : (s.setLine x).counters = s.counters := rfl
@[simp] theorem State.setLine_membership (s : State) (x : LineInterface) : (s.setLine x).membership = s.membership := rfl
@[simp] theorem State.setLine_cycle (s : State) (x : LineInterface) : (s.setLine x).cycle = s.cycle := rfl
@[simp] theorem State.setLine_cells (s : State) (x : LineInterface) : (s.setLine x).cells = s.cells := rfl
@[simp] theorem State.setLine_sendQueue (s : State) (x : LineInterface) : (s.setLine x).sendQueue = s.sendQueue := rfl
@[simp] theorem State.setLine_slots (s : State) (x : LineInterface) : (s.setLine x).slots = s.slots := rfl
@[simp] theorem State.setLine_snapshots (s : State) (x : LineInterface) : (s.setLine x).snapshots = s.snapshots := rfl
@[simp] theorem State.setLine_notices (s : State) (x : LineInterface) : (s.setLine x).notices = s.notices := rfl
@[simp] theorem State.setLine_loader (s : State) (x : LineInterface) : (s.setLine x).loader = s.loader := rfl
@[simp] theorem State.setLine_draws (s : State) (x : LineInterface) : (s.setLine x).draws = s.draws := rfl

/-! ### `setStandingUnit` -/

@[simp] theorem State.setStandingUnit_pending (s : State) (x : StandingUnit) : (s.setStandingUnit x).pending = s.pending := rfl
@[simp] theorem State.setStandingUnit_inReset (s : State) (x : StandingUnit) : (s.setStandingUnit x).inReset = s.inReset := rfl
@[simp] theorem State.setStandingUnit_pselHeld (s : State) (x : StandingUnit) : (s.setStandingUnit x).pselHeld = s.pselHeld := rfl
@[simp] theorem State.setStandingUnit_port (s : State) (x : StandingUnit) : (s.setStandingUnit x).port = s.port := rfl
@[simp] theorem State.setStandingUnit_line (s : State) (x : StandingUnit) : (s.setStandingUnit x).line = s.line := rfl
@[simp] theorem State.setStandingUnit_standingUnit (s : State) (x : StandingUnit) : (s.setStandingUnit x).standingUnit = x := rfl
@[simp] theorem State.setStandingUnit_counters (s : State) (x : StandingUnit) : (s.setStandingUnit x).counters = s.counters := rfl
@[simp] theorem State.setStandingUnit_membership (s : State) (x : StandingUnit) : (s.setStandingUnit x).membership = s.membership := rfl
@[simp] theorem State.setStandingUnit_cycle (s : State) (x : StandingUnit) : (s.setStandingUnit x).cycle = s.cycle := rfl
@[simp] theorem State.setStandingUnit_cells (s : State) (x : StandingUnit) : (s.setStandingUnit x).cells = s.cells := rfl
@[simp] theorem State.setStandingUnit_sendQueue (s : State) (x : StandingUnit) : (s.setStandingUnit x).sendQueue = s.sendQueue := rfl
@[simp] theorem State.setStandingUnit_slots (s : State) (x : StandingUnit) : (s.setStandingUnit x).slots = s.slots := rfl
@[simp] theorem State.setStandingUnit_snapshots (s : State) (x : StandingUnit) : (s.setStandingUnit x).snapshots = s.snapshots := rfl
@[simp] theorem State.setStandingUnit_notices (s : State) (x : StandingUnit) : (s.setStandingUnit x).notices = s.notices := rfl
@[simp] theorem State.setStandingUnit_loader (s : State) (x : StandingUnit) : (s.setStandingUnit x).loader = s.loader := rfl
@[simp] theorem State.setStandingUnit_draws (s : State) (x : StandingUnit) : (s.setStandingUnit x).draws = s.draws := rfl

/-! ### `setCounters` -/

@[simp] theorem State.setCounters_pending (s : State) (x : List Nat) : (s.setCounters x).pending = s.pending := rfl
@[simp] theorem State.setCounters_inReset (s : State) (x : List Nat) : (s.setCounters x).inReset = s.inReset := rfl
@[simp] theorem State.setCounters_pselHeld (s : State) (x : List Nat) : (s.setCounters x).pselHeld = s.pselHeld := rfl
@[simp] theorem State.setCounters_port (s : State) (x : List Nat) : (s.setCounters x).port = s.port := rfl
@[simp] theorem State.setCounters_line (s : State) (x : List Nat) : (s.setCounters x).line = s.line := rfl
@[simp] theorem State.setCounters_standingUnit (s : State) (x : List Nat) : (s.setCounters x).standingUnit = s.standingUnit := rfl
@[simp] theorem State.setCounters_counters (s : State) (x : List Nat) : (s.setCounters x).counters = x := rfl
@[simp] theorem State.setCounters_membership (s : State) (x : List Nat) : (s.setCounters x).membership = s.membership := rfl
@[simp] theorem State.setCounters_cycle (s : State) (x : List Nat) : (s.setCounters x).cycle = s.cycle := rfl
@[simp] theorem State.setCounters_cells (s : State) (x : List Nat) : (s.setCounters x).cells = s.cells := rfl
@[simp] theorem State.setCounters_sendQueue (s : State) (x : List Nat) : (s.setCounters x).sendQueue = s.sendQueue := rfl
@[simp] theorem State.setCounters_slots (s : State) (x : List Nat) : (s.setCounters x).slots = s.slots := rfl
@[simp] theorem State.setCounters_snapshots (s : State) (x : List Nat) : (s.setCounters x).snapshots = s.snapshots := rfl
@[simp] theorem State.setCounters_notices (s : State) (x : List Nat) : (s.setCounters x).notices = s.notices := rfl
@[simp] theorem State.setCounters_loader (s : State) (x : List Nat) : (s.setCounters x).loader = s.loader := rfl
@[simp] theorem State.setCounters_draws (s : State) (x : List Nat) : (s.setCounters x).draws = s.draws := rfl

/-! ### `setMembership` -/

@[simp] theorem State.setMembership_pending (s : State) (x : Membership) : (s.setMembership x).pending = s.pending := rfl
@[simp] theorem State.setMembership_inReset (s : State) (x : Membership) : (s.setMembership x).inReset = s.inReset := rfl
@[simp] theorem State.setMembership_pselHeld (s : State) (x : Membership) : (s.setMembership x).pselHeld = s.pselHeld := rfl
@[simp] theorem State.setMembership_port (s : State) (x : Membership) : (s.setMembership x).port = s.port := rfl
@[simp] theorem State.setMembership_line (s : State) (x : Membership) : (s.setMembership x).line = s.line := rfl
@[simp] theorem State.setMembership_standingUnit (s : State) (x : Membership) : (s.setMembership x).standingUnit = s.standingUnit := rfl
@[simp] theorem State.setMembership_counters (s : State) (x : Membership) : (s.setMembership x).counters = s.counters := rfl
@[simp] theorem State.setMembership_membership (s : State) (x : Membership) : (s.setMembership x).membership = x := rfl
@[simp] theorem State.setMembership_cycle (s : State) (x : Membership) : (s.setMembership x).cycle = s.cycle := rfl
@[simp] theorem State.setMembership_cells (s : State) (x : Membership) : (s.setMembership x).cells = s.cells := rfl
@[simp] theorem State.setMembership_sendQueue (s : State) (x : Membership) : (s.setMembership x).sendQueue = s.sendQueue := rfl
@[simp] theorem State.setMembership_slots (s : State) (x : Membership) : (s.setMembership x).slots = s.slots := rfl
@[simp] theorem State.setMembership_snapshots (s : State) (x : Membership) : (s.setMembership x).snapshots = s.snapshots := rfl
@[simp] theorem State.setMembership_notices (s : State) (x : Membership) : (s.setMembership x).notices = s.notices := rfl
@[simp] theorem State.setMembership_loader (s : State) (x : Membership) : (s.setMembership x).loader = s.loader := rfl
@[simp] theorem State.setMembership_draws (s : State) (x : Membership) : (s.setMembership x).draws = s.draws := rfl

/-! ### `setCycle` -/

@[simp] theorem State.setCycle_pending (s : State) (x : CycleUnit) : (s.setCycle x).pending = s.pending := rfl
@[simp] theorem State.setCycle_inReset (s : State) (x : CycleUnit) : (s.setCycle x).inReset = s.inReset := rfl
@[simp] theorem State.setCycle_pselHeld (s : State) (x : CycleUnit) : (s.setCycle x).pselHeld = s.pselHeld := rfl
@[simp] theorem State.setCycle_port (s : State) (x : CycleUnit) : (s.setCycle x).port = s.port := rfl
@[simp] theorem State.setCycle_line (s : State) (x : CycleUnit) : (s.setCycle x).line = s.line := rfl
@[simp] theorem State.setCycle_standingUnit (s : State) (x : CycleUnit) : (s.setCycle x).standingUnit = s.standingUnit := rfl
@[simp] theorem State.setCycle_counters (s : State) (x : CycleUnit) : (s.setCycle x).counters = s.counters := rfl
@[simp] theorem State.setCycle_membership (s : State) (x : CycleUnit) : (s.setCycle x).membership = s.membership := rfl
@[simp] theorem State.setCycle_cycle (s : State) (x : CycleUnit) : (s.setCycle x).cycle = x := rfl
@[simp] theorem State.setCycle_cells (s : State) (x : CycleUnit) : (s.setCycle x).cells = s.cells := rfl
@[simp] theorem State.setCycle_sendQueue (s : State) (x : CycleUnit) : (s.setCycle x).sendQueue = s.sendQueue := rfl
@[simp] theorem State.setCycle_slots (s : State) (x : CycleUnit) : (s.setCycle x).slots = s.slots := rfl
@[simp] theorem State.setCycle_snapshots (s : State) (x : CycleUnit) : (s.setCycle x).snapshots = s.snapshots := rfl
@[simp] theorem State.setCycle_notices (s : State) (x : CycleUnit) : (s.setCycle x).notices = s.notices := rfl
@[simp] theorem State.setCycle_loader (s : State) (x : CycleUnit) : (s.setCycle x).loader = s.loader := rfl
@[simp] theorem State.setCycle_draws (s : State) (x : CycleUnit) : (s.setCycle x).draws = s.draws := rfl

/-! ### `setCells` -/

@[simp] theorem State.setCells_pending (s : State) (x : List CellRecord) : (s.setCells x).pending = s.pending := rfl
@[simp] theorem State.setCells_inReset (s : State) (x : List CellRecord) : (s.setCells x).inReset = s.inReset := rfl
@[simp] theorem State.setCells_pselHeld (s : State) (x : List CellRecord) : (s.setCells x).pselHeld = s.pselHeld := rfl
@[simp] theorem State.setCells_port (s : State) (x : List CellRecord) : (s.setCells x).port = s.port := rfl
@[simp] theorem State.setCells_line (s : State) (x : List CellRecord) : (s.setCells x).line = s.line := rfl
@[simp] theorem State.setCells_standingUnit (s : State) (x : List CellRecord) : (s.setCells x).standingUnit = s.standingUnit := rfl
@[simp] theorem State.setCells_counters (s : State) (x : List CellRecord) : (s.setCells x).counters = s.counters := rfl
@[simp] theorem State.setCells_membership (s : State) (x : List CellRecord) : (s.setCells x).membership = s.membership := rfl
@[simp] theorem State.setCells_cycle (s : State) (x : List CellRecord) : (s.setCells x).cycle = s.cycle := rfl
@[simp] theorem State.setCells_cells (s : State) (x : List CellRecord) : (s.setCells x).cells = x := rfl
@[simp] theorem State.setCells_sendQueue (s : State) (x : List CellRecord) : (s.setCells x).sendQueue = s.sendQueue := rfl
@[simp] theorem State.setCells_slots (s : State) (x : List CellRecord) : (s.setCells x).slots = s.slots := rfl
@[simp] theorem State.setCells_snapshots (s : State) (x : List CellRecord) : (s.setCells x).snapshots = s.snapshots := rfl
@[simp] theorem State.setCells_notices (s : State) (x : List CellRecord) : (s.setCells x).notices = s.notices := rfl
@[simp] theorem State.setCells_loader (s : State) (x : List CellRecord) : (s.setCells x).loader = s.loader := rfl
@[simp] theorem State.setCells_draws (s : State) (x : List CellRecord) : (s.setCells x).draws = s.draws := rfl

/-! ### `setSendQueue` -/

@[simp] theorem State.setSendQueue_pending (s : State) (x : SendQueue) : (s.setSendQueue x).pending = s.pending := rfl
@[simp] theorem State.setSendQueue_inReset (s : State) (x : SendQueue) : (s.setSendQueue x).inReset = s.inReset := rfl
@[simp] theorem State.setSendQueue_pselHeld (s : State) (x : SendQueue) : (s.setSendQueue x).pselHeld = s.pselHeld := rfl
@[simp] theorem State.setSendQueue_port (s : State) (x : SendQueue) : (s.setSendQueue x).port = s.port := rfl
@[simp] theorem State.setSendQueue_line (s : State) (x : SendQueue) : (s.setSendQueue x).line = s.line := rfl
@[simp] theorem State.setSendQueue_standingUnit (s : State) (x : SendQueue) : (s.setSendQueue x).standingUnit = s.standingUnit := rfl
@[simp] theorem State.setSendQueue_counters (s : State) (x : SendQueue) : (s.setSendQueue x).counters = s.counters := rfl
@[simp] theorem State.setSendQueue_membership (s : State) (x : SendQueue) : (s.setSendQueue x).membership = s.membership := rfl
@[simp] theorem State.setSendQueue_cycle (s : State) (x : SendQueue) : (s.setSendQueue x).cycle = s.cycle := rfl
@[simp] theorem State.setSendQueue_cells (s : State) (x : SendQueue) : (s.setSendQueue x).cells = s.cells := rfl
@[simp] theorem State.setSendQueue_sendQueue (s : State) (x : SendQueue) : (s.setSendQueue x).sendQueue = x := rfl
@[simp] theorem State.setSendQueue_slots (s : State) (x : SendQueue) : (s.setSendQueue x).slots = s.slots := rfl
@[simp] theorem State.setSendQueue_snapshots (s : State) (x : SendQueue) : (s.setSendQueue x).snapshots = s.snapshots := rfl
@[simp] theorem State.setSendQueue_notices (s : State) (x : SendQueue) : (s.setSendQueue x).notices = s.notices := rfl
@[simp] theorem State.setSendQueue_loader (s : State) (x : SendQueue) : (s.setSendQueue x).loader = s.loader := rfl
@[simp] theorem State.setSendQueue_draws (s : State) (x : SendQueue) : (s.setSendQueue x).draws = s.draws := rfl

/-! ### `setSlots` -/

@[simp] theorem State.setSlots_pending (s : State) (x : List FetchSlot) : (s.setSlots x).pending = s.pending := rfl
@[simp] theorem State.setSlots_inReset (s : State) (x : List FetchSlot) : (s.setSlots x).inReset = s.inReset := rfl
@[simp] theorem State.setSlots_pselHeld (s : State) (x : List FetchSlot) : (s.setSlots x).pselHeld = s.pselHeld := rfl
@[simp] theorem State.setSlots_port (s : State) (x : List FetchSlot) : (s.setSlots x).port = s.port := rfl
@[simp] theorem State.setSlots_line (s : State) (x : List FetchSlot) : (s.setSlots x).line = s.line := rfl
@[simp] theorem State.setSlots_standingUnit (s : State) (x : List FetchSlot) : (s.setSlots x).standingUnit = s.standingUnit := rfl
@[simp] theorem State.setSlots_counters (s : State) (x : List FetchSlot) : (s.setSlots x).counters = s.counters := rfl
@[simp] theorem State.setSlots_membership (s : State) (x : List FetchSlot) : (s.setSlots x).membership = s.membership := rfl
@[simp] theorem State.setSlots_cycle (s : State) (x : List FetchSlot) : (s.setSlots x).cycle = s.cycle := rfl
@[simp] theorem State.setSlots_cells (s : State) (x : List FetchSlot) : (s.setSlots x).cells = s.cells := rfl
@[simp] theorem State.setSlots_sendQueue (s : State) (x : List FetchSlot) : (s.setSlots x).sendQueue = s.sendQueue := rfl
@[simp] theorem State.setSlots_slots (s : State) (x : List FetchSlot) : (s.setSlots x).slots = x := rfl
@[simp] theorem State.setSlots_snapshots (s : State) (x : List FetchSlot) : (s.setSlots x).snapshots = s.snapshots := rfl
@[simp] theorem State.setSlots_notices (s : State) (x : List FetchSlot) : (s.setSlots x).notices = s.notices := rfl
@[simp] theorem State.setSlots_loader (s : State) (x : List FetchSlot) : (s.setSlots x).loader = s.loader := rfl
@[simp] theorem State.setSlots_draws (s : State) (x : List FetchSlot) : (s.setSlots x).draws = s.draws := rfl

/-! ### `setSnapshots` -/

@[simp] theorem State.setSnapshots_pending (s : State) (x : Snapshots) : (s.setSnapshots x).pending = s.pending := rfl
@[simp] theorem State.setSnapshots_inReset (s : State) (x : Snapshots) : (s.setSnapshots x).inReset = s.inReset := rfl
@[simp] theorem State.setSnapshots_pselHeld (s : State) (x : Snapshots) : (s.setSnapshots x).pselHeld = s.pselHeld := rfl
@[simp] theorem State.setSnapshots_port (s : State) (x : Snapshots) : (s.setSnapshots x).port = s.port := rfl
@[simp] theorem State.setSnapshots_line (s : State) (x : Snapshots) : (s.setSnapshots x).line = s.line := rfl
@[simp] theorem State.setSnapshots_standingUnit (s : State) (x : Snapshots) : (s.setSnapshots x).standingUnit = s.standingUnit := rfl
@[simp] theorem State.setSnapshots_counters (s : State) (x : Snapshots) : (s.setSnapshots x).counters = s.counters := rfl
@[simp] theorem State.setSnapshots_membership (s : State) (x : Snapshots) : (s.setSnapshots x).membership = s.membership := rfl
@[simp] theorem State.setSnapshots_cycle (s : State) (x : Snapshots) : (s.setSnapshots x).cycle = s.cycle := rfl
@[simp] theorem State.setSnapshots_cells (s : State) (x : Snapshots) : (s.setSnapshots x).cells = s.cells := rfl
@[simp] theorem State.setSnapshots_sendQueue (s : State) (x : Snapshots) : (s.setSnapshots x).sendQueue = s.sendQueue := rfl
@[simp] theorem State.setSnapshots_slots (s : State) (x : Snapshots) : (s.setSnapshots x).slots = s.slots := rfl
@[simp] theorem State.setSnapshots_snapshots (s : State) (x : Snapshots) : (s.setSnapshots x).snapshots = x := rfl
@[simp] theorem State.setSnapshots_notices (s : State) (x : Snapshots) : (s.setSnapshots x).notices = s.notices := rfl
@[simp] theorem State.setSnapshots_loader (s : State) (x : Snapshots) : (s.setSnapshots x).loader = s.loader := rfl
@[simp] theorem State.setSnapshots_draws (s : State) (x : Snapshots) : (s.setSnapshots x).draws = s.draws := rfl

/-! ### `setNotices` -/

@[simp] theorem State.setNotices_pending (s : State) (x : NoticeQueue) : (s.setNotices x).pending = s.pending := rfl
@[simp] theorem State.setNotices_inReset (s : State) (x : NoticeQueue) : (s.setNotices x).inReset = s.inReset := rfl
@[simp] theorem State.setNotices_pselHeld (s : State) (x : NoticeQueue) : (s.setNotices x).pselHeld = s.pselHeld := rfl
@[simp] theorem State.setNotices_port (s : State) (x : NoticeQueue) : (s.setNotices x).port = s.port := rfl
@[simp] theorem State.setNotices_line (s : State) (x : NoticeQueue) : (s.setNotices x).line = s.line := rfl
@[simp] theorem State.setNotices_standingUnit (s : State) (x : NoticeQueue) : (s.setNotices x).standingUnit = s.standingUnit := rfl
@[simp] theorem State.setNotices_counters (s : State) (x : NoticeQueue) : (s.setNotices x).counters = s.counters := rfl
@[simp] theorem State.setNotices_membership (s : State) (x : NoticeQueue) : (s.setNotices x).membership = s.membership := rfl
@[simp] theorem State.setNotices_cycle (s : State) (x : NoticeQueue) : (s.setNotices x).cycle = s.cycle := rfl
@[simp] theorem State.setNotices_cells (s : State) (x : NoticeQueue) : (s.setNotices x).cells = s.cells := rfl
@[simp] theorem State.setNotices_sendQueue (s : State) (x : NoticeQueue) : (s.setNotices x).sendQueue = s.sendQueue := rfl
@[simp] theorem State.setNotices_slots (s : State) (x : NoticeQueue) : (s.setNotices x).slots = s.slots := rfl
@[simp] theorem State.setNotices_snapshots (s : State) (x : NoticeQueue) : (s.setNotices x).snapshots = s.snapshots := rfl
@[simp] theorem State.setNotices_notices (s : State) (x : NoticeQueue) : (s.setNotices x).notices = x := rfl
@[simp] theorem State.setNotices_loader (s : State) (x : NoticeQueue) : (s.setNotices x).loader = s.loader := rfl
@[simp] theorem State.setNotices_draws (s : State) (x : NoticeQueue) : (s.setNotices x).draws = s.draws := rfl

/-! ### `setLoader` -/

@[simp] theorem State.setLoader_pending (s : State) (x : Loader) : (s.setLoader x).pending = s.pending := rfl
@[simp] theorem State.setLoader_inReset (s : State) (x : Loader) : (s.setLoader x).inReset = s.inReset := rfl
@[simp] theorem State.setLoader_pselHeld (s : State) (x : Loader) : (s.setLoader x).pselHeld = s.pselHeld := rfl
@[simp] theorem State.setLoader_port (s : State) (x : Loader) : (s.setLoader x).port = s.port := rfl
@[simp] theorem State.setLoader_line (s : State) (x : Loader) : (s.setLoader x).line = s.line := rfl
@[simp] theorem State.setLoader_standingUnit (s : State) (x : Loader) : (s.setLoader x).standingUnit = s.standingUnit := rfl
@[simp] theorem State.setLoader_counters (s : State) (x : Loader) : (s.setLoader x).counters = s.counters := rfl
@[simp] theorem State.setLoader_membership (s : State) (x : Loader) : (s.setLoader x).membership = s.membership := rfl
@[simp] theorem State.setLoader_cycle (s : State) (x : Loader) : (s.setLoader x).cycle = s.cycle := rfl
@[simp] theorem State.setLoader_cells (s : State) (x : Loader) : (s.setLoader x).cells = s.cells := rfl
@[simp] theorem State.setLoader_sendQueue (s : State) (x : Loader) : (s.setLoader x).sendQueue = s.sendQueue := rfl
@[simp] theorem State.setLoader_slots (s : State) (x : Loader) : (s.setLoader x).slots = s.slots := rfl
@[simp] theorem State.setLoader_snapshots (s : State) (x : Loader) : (s.setLoader x).snapshots = s.snapshots := rfl
@[simp] theorem State.setLoader_notices (s : State) (x : Loader) : (s.setLoader x).notices = s.notices := rfl
@[simp] theorem State.setLoader_loader (s : State) (x : Loader) : (s.setLoader x).loader = x := rfl
@[simp] theorem State.setLoader_draws (s : State) (x : Loader) : (s.setLoader x).draws = s.draws := rfl

/-! ### `setDraws` -/

@[simp] theorem State.setDraws_pending (s : State) (x : Nat) : (s.setDraws x).pending = s.pending := rfl
@[simp] theorem State.setDraws_inReset (s : State) (x : Nat) : (s.setDraws x).inReset = s.inReset := rfl
@[simp] theorem State.setDraws_pselHeld (s : State) (x : Nat) : (s.setDraws x).pselHeld = s.pselHeld := rfl
@[simp] theorem State.setDraws_port (s : State) (x : Nat) : (s.setDraws x).port = s.port := rfl
@[simp] theorem State.setDraws_line (s : State) (x : Nat) : (s.setDraws x).line = s.line := rfl
@[simp] theorem State.setDraws_standingUnit (s : State) (x : Nat) : (s.setDraws x).standingUnit = s.standingUnit := rfl
@[simp] theorem State.setDraws_counters (s : State) (x : Nat) : (s.setDraws x).counters = s.counters := rfl
@[simp] theorem State.setDraws_membership (s : State) (x : Nat) : (s.setDraws x).membership = s.membership := rfl
@[simp] theorem State.setDraws_cycle (s : State) (x : Nat) : (s.setDraws x).cycle = s.cycle := rfl
@[simp] theorem State.setDraws_cells (s : State) (x : Nat) : (s.setDraws x).cells = s.cells := rfl
@[simp] theorem State.setDraws_sendQueue (s : State) (x : Nat) : (s.setDraws x).sendQueue = s.sendQueue := rfl
@[simp] theorem State.setDraws_slots (s : State) (x : Nat) : (s.setDraws x).slots = s.slots := rfl
@[simp] theorem State.setDraws_snapshots (s : State) (x : Nat) : (s.setDraws x).snapshots = s.snapshots := rfl
@[simp] theorem State.setDraws_notices (s : State) (x : Nat) : (s.setDraws x).notices = s.notices := rfl
@[simp] theorem State.setDraws_loader (s : State) (x : Nat) : (s.setDraws x).loader = s.loader := rfl
@[simp] theorem State.setDraws_draws (s : State) (x : Nat) : (s.setDraws x).draws = x := rfl

end Sys2Proof.Machine
end

