-- ==== Sys2Proof/Laws/Frames.lean ====
section
/-! SUPPORT. Which parts of the state each shared operation changes: one lemma per operation. -/

namespace Sys2Proof.Machine

set_option Elab.async false

namespace ChangesOnly

variable {s t u : State} {ps qs : List Block}

theorem refl (s : State) : ChangesOnly ps s s := by intro b; cases b <;> simp [Block.same]

theorem mono (h : ChangesOnly ps s t) (hs : ∀ b ∈ ps, b ∈ qs) : ChangesOnly qs s t :=
  fun b => (h b).imp (hs b) id

theorem trans (h : ChangesOnly ps s t) (k : ChangesOnly ps t u) : ChangesOnly ps s u := by
  intro b
  rcases h b with h | h
  · exact .inl h
  · rcases k b with k | k
    · exact .inl k
    · refine .inr ?_
      cases b <;> simp_all [Block.same]

/-- An operation of fewer parts after one of more. -/
theorem after (h : ChangesOnly ps s t) (k : ChangesOnly qs t u) (hs : ∀ b ∈ qs, b ∈ ps := by decide) : ChangesOnly ps s u :=
  h.trans (k.mono hs)

theorem foldl {α : Type} (f : State → α → State) (hf : ∀ t a, ChangesOnly ps t (f t a)) (l : List α) (s : State) :
    ChangesOnly ps s (l.foldl f s) := by
  induction l generalizing s with
  | nil => exact refl s
  | cons a l ih => exact (hf s a).trans (ih _)

theorem same (h : ChangesOnly ps s t) (b : Block) (hb : b ∉ ps) : b.same s t := (h b).resolve_left hb

theorem pending (h : ChangesOnly ps s t) (hb : Block.pending ∉ ps := by decide) : t.pending = s.pending := h.same .pending hb
theorem inReset (h : ChangesOnly ps s t) (hb : Block.inReset ∉ ps := by decide) : t.inReset = s.inReset := h.same .inReset hb
theorem pselHeld (h : ChangesOnly ps s t) (hb : Block.pselHeld ∉ ps := by decide) : t.pselHeld = s.pselHeld := h.same .pselHeld hb
theorem port (h : ChangesOnly ps s t) (hb : Block.port ∉ ps := by decide) : t.port = s.port := h.same .port hb
theorem line (h : ChangesOnly ps s t) (hb : Block.line ∉ ps := by decide) : t.line = s.line := h.same .line hb
theorem driver (h : ChangesOnly ps s t) (hb : Block.driver ∉ ps := by decide) : t.line.driver = s.line.driver := h.same .driver hb
theorem level (h : ChangesOnly ps s t) (hb : Block.level ∉ ps := by decide) : t.standingUnit.standing = s.standingUnit.standing :=
  h.same .level hb
theorem lead (h : ChangesOnly ps s t) (hb : Block.lead ∉ ps := by decide) : t.cycle.lead = s.cycle.lead := h.same .lead hb
theorem posted (h : ChangesOnly ps s t) (hb : Block.posted ∉ ps := by decide) : Block.same s t .posted := h.same .posted hb
theorem params (h : ChangesOnly ps s t) (hb : Block.params ∉ ps := by decide) : t.loader.params = s.loader.params :=
  h.same .params hb
theorem standing (h : ChangesOnly ps s t) (hb : Block.standing ∉ ps := by decide) : t.standingUnit = s.standingUnit :=
  h.same .standing hb
theorem counters (h : ChangesOnly ps s t) (hb : Block.counters ∉ ps := by decide) : t.counters = s.counters := h.same .counters hb
theorem lineCounters (h : ChangesOnly ps s t) (hb : Block.lineCounters ∉ ps := by decide) :
    t.counters.take 7 = s.counters.take 7 := h.same .lineCounters hb
theorem membership (h : ChangesOnly ps s t) (hb : Block.membership ∉ ps := by decide) : t.membership = s.membership :=
  h.same .membership hb
theorem node (h : ChangesOnly ps s t) (hb : Block.node ∉ ps := by decide) : t.node = s.node := h.same .node hb
theorem cycle (h : ChangesOnly ps s t) (hb : Block.cycle ∉ ps := by decide) : t.cycle = s.cycle := h.same .cycle hb
theorem clock (h : ChangesOnly ps s t) (hb : Block.clock ∉ ps := by decide) : Block.same s t .clock := h.same .clock hb
theorem cells (h : ChangesOnly ps s t) (hb : Block.cells ∉ ps := by decide) : t.cells = s.cells := h.same .cells hb
theorem sendQueue (h : ChangesOnly ps s t) (hb : Block.sendQueue ∉ ps := by decide) : t.sendQueue = s.sendQueue :=
  h.same .sendQueue hb
theorem flight (h : ChangesOnly ps s t) (hb : Block.flight ∉ ps := by decide) : t.sendQueue.inFlight = s.sendQueue.inFlight :=
  h.same .flight hb
theorem slots (h : ChangesOnly ps s t) (hb : Block.slots ∉ ps := by decide) : t.slots = s.slots := h.same .slots hb
theorem snapshots (h : ChangesOnly ps s t) (hb : Block.snapshots ∉ ps := by decide) : t.snapshots = s.snapshots :=
  h.same .snapshots hb
theorem notices (h : ChangesOnly ps s t) (hb : Block.notices ∉ ps := by decide) : t.notices = s.notices := h.same .notices hb
theorem loader (h : ChangesOnly ps s t) (hb : Block.loader ∉ ps := by decide) : t.loader = s.loader := h.same .loader hb
theorem draws (h : ChangesOnly ps s t) (hb : Block.draws ∉ ps := by decide) : t.draws = s.draws := h.same .draws hb

end ChangesOnly

/-! ## Writes of one block -/

theorem setPselHeld_changes (s : State) (x : Bool) : ChangesOnly [.pselHeld] s (s.setPselHeld x) := by
  intro b; cases b <;> simp [Block.same]
theorem setPort_changes (s : State) (x : Port) : ChangesOnly [.port] s (s.setPort x) := by
  intro b; cases b <;> simp [Block.same]
theorem setLine_changes (s : State) (x : LineInterface) : ChangesOnly [.line, .driver] s (s.setLine x) := by
  intro b; cases b <;> simp [Block.same]
theorem setLine_keeps_driver (s : State) (x : LineInterface) (h : x.driver = s.line.driver) :
    ChangesOnly [.line] s (s.setLine x) := by
  intro b; cases b <;> simp [Block.same, h]
theorem setStandingUnit_changes (s : State) (x : StandingUnit) : ChangesOnly [.standing, .level] s (s.setStandingUnit x) := by
  intro b; cases b <;> simp [Block.same]
theorem setStandingUnit_keeps_level (s : State) (x : StandingUnit) (h : x.standing = s.standingUnit.standing) :
    ChangesOnly [.standing] s (s.setStandingUnit x) := by
  intro b; cases b <;> simp [Block.same, h]
theorem setCounters_changes (s : State) (x : List Nat) : ChangesOnly [.counters, .lineCounters] s (s.setCounters x) := by
  intro b; cases b <;> simp [Block.same]
theorem setCounters_keeps_line (s : State) (x : List Nat) (h : x.take 7 = s.counters.take 7) :
    ChangesOnly [.counters] s (s.setCounters x) := by
  intro b; cases b <;> simp [Block.same, h]
theorem setMembership_changes (s : State) (x : Membership) : ChangesOnly [.membership, .node] s (s.setMembership x) := by
  intro b; cases b <;> simp [Block.same]
theorem setMembership_keeps_node (s : State) (x : Membership) (h : x.node = s.membership.node) :
    ChangesOnly [.membership] s (s.setMembership x) := by
  intro b; cases b <;> simp [Block.same, h]
theorem setCycle_changes (s : State) (x : CycleUnit) : ChangesOnly [.cycle, .clock, .lead] s (s.setCycle x) := by
  intro b; cases b <;> simp [Block.same]
theorem setCells_changes (s : State) (x : List CellRecord) : ChangesOnly [.cells] s (s.setCells x) := by
  intro b; cases b <;> simp [Block.same]
theorem setSendQueue_changes (s : State) (x : SendQueue) : ChangesOnly [.sendQueue, .flight] s (s.setSendQueue x) := by
  intro b; cases b <;> simp [Block.same]
theorem setSendQueue_keeps_flight (s : State) (x : SendQueue) (h : x.inFlight = s.sendQueue.inFlight) :
    ChangesOnly [.sendQueue] s (s.setSendQueue x) := by
  intro b; cases b <;> simp [Block.same, h]
theorem setSlots_changes (s : State) (x : List FetchSlot) : ChangesOnly [.slots] s (s.setSlots x) := by
  intro b; cases b <;> simp [Block.same]
theorem setSnapshots_changes (s : State) (x : Snapshots) : ChangesOnly [.snapshots] s (s.setSnapshots x) := by
  intro b; cases b <;> simp [Block.same]
theorem setNotices_changes (s : State) (x : NoticeQueue) : ChangesOnly [.notices, .posted] s (s.setNotices x) := by
  intro b; cases b <;> simp [Block.same]
theorem setLoader_changes (s : State) (x : Loader) : ChangesOnly [.loader, .params] s (s.setLoader x) := by
  intro b; cases b <;> simp [Block.same]
theorem setLoader_keeps_params (s : State) (x : Loader) (h : x.params = s.loader.params) :
    ChangesOnly [.loader] s (s.setLoader x) := by
  intro b; cases b <;> simp [Block.same, h]
theorem setDraws_changes (s : State) (x : Nat) : ChangesOnly [.draws] s (s.setDraws x) := by
  intro b; cases b <;> simp [Block.same]
theorem setCell_changes (s : State) (c : CellNo) (r : CellRecord) : ChangesOnly [.cells] s (s.setCell c r) :=
  setCells_changes _ _
theorem setSlot_changes (s : State) (i : Nat) (f : FetchSlot) : ChangesOnly [.slots] s (s.setSlot i f) := setSlots_changes _ _
theorem setEntry_changes (s : State) (st : Station) (e : RosterEntry) : ChangesOnly [.membership] s (s.setEntry st e) := by
  refine setMembership_keeps_node _ _ ?_
  unfold Membership.setEntry
  split <;> rfl
theorem setNode_changes (s : State) (n : NodeState) : ChangesOnly [.membership, .node] s (s.setNode n) := setMembership_changes _ _

/-! ## Notices, counters, responses -/

theorem raise_changes (k : NoticeKind) (c : Option CellNo) (st : Station) (d : Nat) (s : State) :
    ChangesOnly [.notices] s (raise k c st d s) := by
  intro b; cases b <;> simp [Block.same, raise]

theorem count_changes (id : CounterId) (n : Nat) (s : State) :
    ChangesOnly [.counters, .lineCounters, .notices] s (count id n s) := by
  unfold count
  have h : ChangesOnly [.counters, .lineCounters, .notices] s
      (s.setCounters (s.counters.set id.number (counterAfter (s.counters.getD id.number 0) n))) :=
    (setCounters_changes _ _).mono (by decide)
  dsimp only
  split
  · exact h.after (raise_changes _ _ _ _ _)
  · exact h

/-- A counter of another block than the Line Interface. -/
theorem count_changes_other (id : CounterId) (n : Nat) (s : State) (hid : 7 ≤ id.number := by decide) :
    ChangesOnly [.counters, .notices] s (count id n s) := by
  unfold count
  have h : ChangesOnly [.counters, .notices] s
      (s.setCounters (s.counters.set id.number (counterAfter (s.counters.getD id.number 0) n))) :=
    (setCounters_keeps_line _ _ (List.take_set_of_le hid)).mono (by decide)
  dsimp only
  split
  · exact h.after (raise_changes _ _ _ _ _)
  · exact h

theorem judgeAttn_changes (s : State) : ChangesOnly [.notices, .posted] s (judgeAttn s) := setNotices_changes _ _

theorem post_changes (n : Notice) (s : State) : ChangesOnly [.counters, .notices, .posted] s (post n s) := by
  unfold post
  dsimp only
  split
  · exact .refl s
  · split
    · exact ((setNotices_changes _ _).mono (by decide)).after (judgeAttn_changes _)
    · exact (((setCounters_keeps_line _ _ (List.take_set_of_le (by decide))).mono (by decide)).after
        (setNotices_changes _ _)).after (judgeAttn_changes _)

theorem deliver_changes (turns : List Source) (s : State) : ChangesOnly [.counters, .notices, .posted] s (deliver turns s) :=
  ((setNotices_changes _ _).mono (by decide)).trans (ChangesOnly.foldl _ (fun t n => post_changes n t) _ _)

theorem respond_changes (st : Status) (r : List Byte) (s : State) : ChangesOnly [.port] s (respond st r s) := setPort_changes _ _

theorem respondNode_changes (st : Status) (s : State) : ChangesOnly [.port] s (respondNode st s) := setPort_changes _ _

/-! ## The Line Interface and the Standing Unit -/

theorem releaseDriver_changes (s : State) : ChangesOnly [.line, .driver] s (releaseDriver s) := setLine_changes _ _
theorem receiverOn_changes (s : State) : ChangesOnly [.line] s (receiverOn s) := setLine_keeps_driver _ _ rfl
theorem endFrame_changes (run : Nat) (s : State) : ChangesOnly [.line, .driver] s (endFrame run s) := setLine_changes _ _

theorem stick_changes (s : State) : ChangesOnly [.line, .standing, .notices] s (stick s) := by
  intro b; cases b <;> simp [Block.same, stick, raise]

theorem passSymbols_changes (units : Nat) (s : State) : ChangesOnly [.line] s (passSymbols units s) := setLine_keeps_driver _ _ rfl

theorem receiverOff_changes (s : State) : ChangesOnly [.line, .driver, .notices] s (receiverOff s) := by
  unfold receiverOff
  dsimp only
  split
  · exact ((setLine_changes _ _).mono (by decide)).after (raise_changes _ _ _ _ _)
  · exact (setLine_changes _ _).mono (by decide)

theorem dueVeto_changes (n : Nat) (s : State) : ChangesOnly [.line] s (dueVeto n s) := by
  unfold dueVeto
  split
  · exact setLine_keeps_driver _ _ rfl
  · exact .refl s

theorem beginVeto_changes (s : State) : ChangesOnly [.line, .driver, .counters, .lineCounters, .notices] s (beginVeto s) := by
  unfold beginVeto
  split
  · exact ((setLine_changes _ _).mono (by decide)).after (count_changes _ _ _)
  · exact (setLine_changes _ _).mono (by decide)

theorem driveVeto_changes (units : Nat) (s : State) : ChangesOnly [.line, .driver] s (driveVeto units s) := by
  unfold driveVeto
  split
  · exact setLine_changes _ _
  · exact .refl s
  · exact .refl s

theorem passVeto_changes (units : Nat) (s : State) :
    ChangesOnly [.line, .driver, .counters, .lineCounters, .notices] s (passVeto units s) := by
  unfold passVeto
  split
  · split
    · exact (beginVeto_changes _).after (driveVeto_changes _ _)
    · exact (setLine_changes _ _).mono (by decide)
  · exact (driveVeto_changes _ _).mono (by decide)

theorem finishVeto_changes (s : State) : ChangesOnly [.line, .driver, .counters, .lineCounters, .notices] s (finishVeto s) := by
  have h : ChangesOnly [.line, .driver, .counters, .lineCounters, .notices] s
      (if s.line.vetoDue.isSome then beginVeto s else s) := by
    split
    · exact beginVeto_changes _
    · exact .refl s
  unfold finishVeto
  dsimp only
  split
  · exact h.after (releaseDriver_changes _)
  · exact h
  · exact h

theorem withdrawVeto_changes (s : State) : ChangesOnly [.line, .driver] s (withdrawVeto s) := by
  unfold withdrawVeto
  split <;> exact setLine_changes _ _

theorem refit_changes (s : State) : ChangesOnly [.standing, .level, .line, .driver, .notices] s (refit s) := by
  unfold refit
  dsimp only
  split
  · exact .refl s
  · have h : ∀ x y, ChangesOnly [.standing, .level, .line, .driver, .notices] s (raise .standing none 0 y (s.setStandingUnit x)) := fun x y =>
      ((setStandingUnit_changes _ _).mono (by decide)).after (raise_changes _ _ _ _ _)
    split
    · exact h _ _
    · exact (h _ _).after (withdrawVeto_changes _)
    · exact ((h _ _).after (setStandingUnit_changes _ _)).after (releaseDriver_changes _)

theorem standOutcome_changes (o : OutcomeKind) (s : State) : ChangesOnly [.standing, .level, .line, .driver, .notices] s (standOutcome o s) := by
  unfold standOutcome
  dsimp only
  split
  · exact .refl s
  · exact ((setStandingUnit_changes _ _).mono (by decide)).trans (refit_changes _)

theorem judgeWindow_changes (s : State) : ChangesOnly [.standing, .notices] s (judgeWindow s) := by
  unfold judgeWindow
  dsimp only
  split
  · exact (setStandingUnit_keeps_level s _ (by rfl)).mono (by decide)
  · exact ((setStandingUnit_keeps_level s _ (by rfl)).mono (by decide)).after (raise_changes _ _ _ _ _)

theorem observe_changes (f : Bool) (s : State) : ChangesOnly [.standing, .notices] s (observe f s) := by
  unfold observe
  dsimp only
  split
  · exact ((setStandingUnit_keeps_level s _ (by rfl)).mono (by decide)).trans (judgeWindow_changes _)
  · exact (setStandingUnit_keeps_level s _ (by rfl)).mono (by decide)

theorem standFault_changes (s : State) : ChangesOnly [.standing, .level, .line, .driver, .notices] s (standFault s) := by
  unfold standFault
  dsimp only
  have h : ChangesOnly [.standing, .level, .line, .driver, .notices] s (observe true s) := (observe_changes _ _).mono (by decide)
  split
  · exact h
  · exact (h.after (setStandingUnit_changes _ _)).after (refit_changes _)

theorem standTake_changes (s : State) : ChangesOnly [.standing, .level, .line, .driver, .notices] s (standTake s) := by
  unfold standTake
  dsimp only
  have h : ChangesOnly [.standing, .level, .line, .driver, .notices] s (observe false s) := (observe_changes _ _).mono (by decide)
  split
  · exact h
  · exact (h.after (setStandingUnit_changes _ _)).after (refit_changes _)

/-! ## The Send Queue -/

@[simp] theorem SendQueue.drop_inFlight (q : SendQueue) (c : CellNo) : (q.drop c).inFlight = q.inFlight := rfl
@[simp] theorem SendQueue.undefer_inFlight (q : SendQueue) (c : CellNo) : (q.undefer c).inFlight = q.inFlight := rfl
@[simp] theorem SendQueue.update_inFlight (q : SendQueue) (c : CellNo) (f : Entry → Entry) :
    (q.update c f).inFlight = q.inFlight := rfl
@[simp] theorem SendQueue.create_inFlight (q : SendQueue) (k : EntryKind) (c : CellNo) (r : Reason) :
    (q.create k c r).inFlight = q.inFlight := by
  unfold SendQueue.create
  split <;> rfl

theorem trigger_changes (c : CellNo) (r : Reason) (s : State) : ChangesOnly [.sendQueue, .notices] s (trigger c r s) := by
  have h : ∀ q : SendQueue, q.inFlight = s.sendQueue.inFlight → ChangesOnly [.sendQueue, .notices] s (s.setSendQueue q) := fun q hq => (setSendQueue_keeps_flight s q hq).mono (by decide)
  unfold trigger
  dsimp only
  split
  · exact .refl s
  · split
    · exact h _ (by simp)
    · split
      · exact .refl s
      · split
        · exact h _ (by simp)
        · split
          · exact (h _ (by simp)).after (raise_changes _ _ _ _ _)
          · exact h _ (by simp)

theorem refill_changes (s : State) : ChangesOnly [.sendQueue] s (refill s) := by
  unfold refill
  dsimp only
  split
  · exact .refl s
  · split
    · exact setSendQueue_keeps_flight _ _ (by simp)
    · split
      · exact .refl s
      · exact setSendQueue_keeps_flight _ _ (by simp)

theorem removeWaiting_changes (c : CellNo) (s : State) : ChangesOnly [.sendQueue] s (removeWaiting c s) := by
  unfold removeWaiting
  split
  · exact (setSendQueue_keeps_flight _ _ (by simp)).trans (refill_changes _)
  · exact .refl s

theorem askFetchEntry_changes (c : CellNo) (s : State) : ChangesOnly [.sendQueue] s (askFetchEntry c s) := by
  unfold askFetchEntry
  split
  · exact setSendQueue_keeps_flight _ _ (by simp)
  · split
    · exact setSendQueue_keeps_flight _ _ (by simp)
    · exact .refl s

theorem clearChanged_changes (s : State) : ChangesOnly [.cells] s (clearChanged s) := setCells_changes _ _

theorem setCycle_keeps_clock (s : State) (x : CycleUnit) (h : Block.same s (s.setCycle x) .clock) :
    ChangesOnly [.cycle, .lead] s (s.setCycle x) := by
  intro b
  cases b with
  | clock => exact .inr h
  | _ => simp [Block.same]

theorem setCycle_keeps_clock_and_lead (s : State) (x : CycleUnit) (h : Block.same s (s.setCycle x) .clock)
    (k : x.lead = s.cycle.lead) : ChangesOnly [.cycle] s (s.setCycle x) := by
  intro b
  cases b with
  | clock => exact .inr h
  | _ => simp [Block.same, k]

theorem emptyMark_changes (s : State) : ChangesOnly [.cycle] s (emptyMark s) :=
  setCycle_keeps_clock_and_lead _ _ (by simp [Block.same]) rfl

theorem emptyPresence_changes (s : State) : ChangesOnly [.membership] s (emptyPresence s) := setMembership_keeps_node _ _ rfl

theorem flushAll_changes (s : State) : ChangesOnly [.sendQueue, .flight, .cells, .cycle, .membership] s (flushAll s) := by
  unfold flushAll
  exact ((((setSendQueue_changes _ _).mono (by decide)).after (clearChanged_changes _)).after (emptyMark_changes _)).after
    (emptyPresence_changes _)

theorem flushWaiting_changes (s : State) : ChangesOnly [.sendQueue, .cells, .cycle, .membership] s (flushWaiting s) := by
  unfold flushWaiting
  dsimp only
  have h : ∀ q : SendQueue, q.inFlight = s.sendQueue.inFlight →
      ChangesOnly [.sendQueue, .cells, .cycle, .membership] s (clearChanged (s.setSendQueue q)) := fun q hq =>
    ((setSendQueue_keeps_flight _ _ hq).mono (by decide)).after (clearChanged_changes _)
  have k : ∀ q : SendQueue, q.inFlight = s.sendQueue.inFlight → ChangesOnly [.sendQueue, .cells, .cycle, .membership] s
      (if s.inFlightIs .mark then clearChanged (s.setSendQueue q) else emptyMark (clearChanged (s.setSendQueue q))) :=
    fun q hq => by
      split
      · exact h q hq
      · exact (h q hq).after (emptyMark_changes _)
  split
  · exact k _ (by rfl)
  · exact (k _ (by rfl)).after (emptyPresence_changes _)

theorem fillPresence_changes (l : Bool) (s : State) : ChangesOnly [.membership, .sendQueue] s (fillPresence l s) := by
  unfold fillPresence
  split
  · exact .refl s
  · refine ((setMembership_keeps_node s _ (by rfl)).mono (by decide)).after (setSendQueue_keeps_flight _ _ (by simp))

/-! ## The Fetch Unit -/

theorem freeSlot_changes (i : Nat) (s : State) : ChangesOnly [.slots] s (freeSlot i s) := setSlot_changes _ _ _

theorem slotAwaits_changes (c : CellNo) (s : State) : ChangesOnly [.slots] s (slotAwaits c s) := by
  unfold slotAwaits
  split
  · split
    · exact setSlot_changes _ _ _
    · exact .refl s
  · exact .refl s

theorem slotCancelled_changes (c : CellNo) (s : State) : ChangesOnly [.slots] s (slotCancelled c s) := by
  unfold slotCancelled
  split
  · split
    · exact freeSlot_changes _ _
    · exact .refl s
  · exact .refl s

theorem completeFetch_changes (c : CellNo) (st : Station) (s : State) :
    ChangesOnly [.slots, .sendQueue, .notices] s (completeFetch c st s) := by
  unfold completeFetch
  dsimp only
  split
  · have h : ∀ i n, ChangesOnly [.slots, .sendQueue, .notices] s (raise .fetchDone (some c) st n (freeSlot i s)) := fun i n =>
      ((freeSlot_changes _ _).mono (by decide)).after (raise_changes _ _ _ _ _)
    split
    · exact (h _ _).after (removeWaiting_changes _ _)
    · exact h _ _
  · exact .refl s

theorem failSlot_changes (i : Nat) (st : Station) (d : Nat) (s : State) : ChangesOnly [.slots, .notices] s (failSlot i st d s) := by
  unfold failSlot
  exact ((freeSlot_changes _ _).mono (by decide)).after (raise_changes _ _ _ _ _)

theorem abandonSlots_changes (s : State) : ChangesOnly [.slots, .notices] s (abandonSlots s) := by
  refine ChangesOnly.foldl _ (fun t i => ?_) _ _
  split
  · exact failSlot_changes _ _ _ _
  · exact .refl t

theorem slotsDeparture_changes (st : Station) (s : State) : ChangesOnly [.slots, .sendQueue, .notices] s (slotsDeparture st s) := by
  refine ChangesOnly.foldl _ (fun t i => ?_) _ _
  dsimp only
  have h : ChangesOnly [.slots, .sendQueue, .notices] t (failSlot i st 1 t) := (failSlot_changes _ _ _ _).mono (by decide)
  split
  · split
    · exact h.after (removeWaiting_changes _ _)
    · exact h
  · exact .refl t

theorem endTry_changes (i : Nat) (s : State) : ChangesOnly [.slots, .sendQueue, .notices] s (endTry i s) := by
  unfold endTry
  dsimp only
  split
  · exact ((setSlot_changes _ _ _).mono (by decide)).after (askFetchEntry_changes _ _)
  · exact (failSlot_changes _ _ _ _).mono (by decide)

/-! ## The Cell Engine -/

theorem makeStale_changes (c : CellNo) (s : State) : ChangesOnly [.cells, .notices] s (makeStale c s) := by
  unfold makeStale
  exact ((setCell_changes _ _ _).mono (by decide)).after (raise_changes _ _ _ _ _)

theorem makeLost_changes (d : Nat) (c : CellNo) (s : State) : ChangesOnly [.cells, .notices] s (makeLost d c s) := by
  unfold makeLost
  exact ((setCell_changes _ _ _).mono (by decide)).after (raise_changes _ _ _ _ _)

theorem regain_changes (d : Nat) (c : CellNo) (s : State) : ChangesOnly [.cells, .sendQueue, .notices] s (regain d c s) := by
  unfold regain
  exact (((setCell_changes _ _ _).mono (by decide)).after (raise_changes _ _ _ _ _)).after (trigger_changes _ _ _)

theorem endGap_changes (c : CellNo) (s : State) : ChangesOnly [.cells, .sendQueue, .notices] s (endGap c s) := by
  unfold endGap
  exact ((setCell_changes _ _ _).mono (by decide)).after (trigger_changes _ _ _)

theorem raiseChange_changes (c : CellNo) (s : State) : ChangesOnly [.cells, .sendQueue, .notices] s (raiseChange c s) := by
  unfold raiseChange
  dsimp only
  split
  · exact (trigger_changes _ _ _).mono (by decide)
  · exact (setCell_changes _ _ _).mono (by decide)

theorem cellsDeparture_changes (st : Station) (s : State) : ChangesOnly [.cells, .sendQueue, .notices] s (cellsDeparture st s) := by
  refine ChangesOnly.foldl _ (fun t c => ?_) _ _
  split
  · exact regain_changes _ _ _
  · exact (makeLost_changes _ _ _).mono (by decide)

theorem judgeCell_changes (c : CellNo) (s : State) : ChangesOnly [.cells, .sendQueue, .notices] s (judgeCell c s) := by
  unfold judgeCell
  dsimp only
  repeat' split
  · exact (makeStale_changes _ _).mono (by decide)
  · exact (makeLost_changes _ _ _).mono (by decide)
  · exact regain_changes _ _ _
  · exact endGap_changes _ _
  · exact (trigger_changes _ _ _).mono (by decide)
  · exact .refl s

theorem cellsCycle_changes (s : State) : ChangesOnly [.cells, .sendQueue, .notices] s (cellsCycle s) := by
  unfold cellsCycle
  exact ((setCells_changes _ _).mono (by decide)).trans (ChangesOnly.foldl _ (fun t c => judgeCell_changes c t) _ _)

/-! ## The Roster -/

theorem depart_changes (st : Station) (d : Nat) (ff : Bool) (s : State) :
    ChangesOnly [.membership, .cells, .slots, .sendQueue, .notices] s (depart st d ff s) := by
  unfold depart
  dsimp only
  have h : ∀ e, ChangesOnly [.membership, .cells, .slots, .sendQueue, .notices] s (raise .stationAbsent none st d (s.setEntry st e)) :=
    fun e => ((setEntry_changes _ _ _).mono (by decide)).after (raise_changes _ _ _ _ _)
  split
  · exact ((h _).after (slotsDeparture_changes _ _)).after (cellsDeparture_changes _ _)
  · exact ((h _).after (cellsDeparture_changes _ _)).after (slotsDeparture_changes _ _)

theorem rosterCycle_changes (st : Station) (ff : Bool) (s : State) :
    ChangesOnly [.membership, .cells, .slots, .sendQueue, .notices] s (rosterCycle st ff s) := by
  unfold rosterCycle
  dsimp only
  split
  · have h : ∀ e, ChangesOnly [.membership, .cells, .slots, .sendQueue, .notices] s (s.setEntry st e) :=
      fun e => (setEntry_changes _ _ _).mono (by decide)
    split
    · exact (h _).trans (depart_changes _ _ _ _)
    · exact h _
  · exact .refl s

/-! ## The Snapshot Unit and the lead -/

theorem placeFreeze_changes (id : AreaId) (st : Station) (s : State) : ChangesOnly [.snapshots, .notices] s (placeFreeze id st s) := by
  unfold placeFreeze
  exact ((setSnapshots_changes _ _).mono (by decide)).after (raise_changes _ _ _ _ _)

theorem freeze_changes (st : Station) (s : State) : ChangesOnly [.snapshots, .counters, .notices] s (freeze st s) := by
  have h : ∀ n, ChangesOnly [.snapshots, .counters, .notices] s (count .snapshotDrops 1 (raise .snapshotDropped none 0 n s)) :=
    fun n => ((raise_changes _ _ _ _ _).mono (by decide)).after (count_changes_other _ _ _)
  unfold freeze
  split
  · exact (placeFreeze_changes _ _ _).mono (by decide)
  · exact (h _).after (placeFreeze_changes _ _ _)
  · exact h _

theorem fillMark_changes (s : State) : ChangesOnly [.cycle] s (fillMark s) :=
  setCycle_keeps_clock_and_lead _ _ (by simp [Block.same]) rfl

theorem takeLead_changes (d : Nat) (s : State) : ChangesOnly [.cycle, .lead, .notices] s (takeLead d s) := by
  unfold takeLead
  exact (((setCycle_keeps_clock s _ (by simp [Block.same])).mono (by decide)).after (raise_changes _ _ _ _ _)).after
    (fillMark_changes _)

theorem dropLead_changes (d : Nat) (s : State) : ChangesOnly [.cycle, .lead, .notices] s (dropLead d s) := by
  unfold dropLead
  dsimp only
  have h : ChangesOnly [.cycle, .lead, .notices] s (s.setCycle
      { s.cycle with lead := false, takeover := none, mark := if s.cycle.mark = .waiting then .empty else s.cycle.mark }) :=
    (setCycle_keeps_clock s _ (by simp [Block.same])).mono (by decide)
  split
  · exact h.after (raise_changes _ _ _ _ _)
  · exact h

theorem stopCycle_changes (s : State) : ChangesOnly [.cycle, .clock, .lead] s (stopCycle s) := setCycle_changes _ _
theorem startCycle_changes (s : State) : ChangesOnly [.cycle, .clock, .lead] s (startCycle s) := setCycle_changes _ _

/-! ## Changes of node state -/

theorem enterListening_changes (s : State) : ChangesOnly [.membership, .node, .line, .cycle, .clock, .lead] s (enterListening s) := by
  unfold enterListening
  dsimp only
  have h : ∀ m, ChangesOnly [.membership, .node, .line, .cycle, .clock, .lead] s (s.setMembership m) :=
    fun m => (setMembership_changes _ _).mono (by decide)
  split
  · exact ((h _).after (receiverOn_changes _)).after (startCycle_changes _)
  · exact h _

theorem freezeConfig_changes (s : State) : ChangesOnly [.loader] s (freezeConfig s) := by
  unfold freezeConfig
  split
  · exact .refl s
  · exact setLoader_keeps_params s _ (by rfl)

theorem joinLine_changes (s : State) : ChangesOnly [.loader, .membership, .node, .line, .cycle, .clock, .lead] s (joinLine s) := by
  unfold joinLine
  exact ((freezeConfig_changes _).mono (by decide)).after (enterListening_changes _)

theorem joinTriggers_changes (s : State) : ChangesOnly [.cells, .sendQueue, .notices] s (joinTriggers s) := by
  unfold joinTriggers
  exact ((setCells_changes _ _).mono (by decide)).trans
    (ChangesOnly.foldl _ (fun t c => (trigger_changes c .join t).mono (by decide)) _ _)

theorem enterMember_changes (d : Nat) (s : State) :
    ChangesOnly [.membership, .node, .cycle, .lead, .cells, .sendQueue, .notices] s (enterMember d s) := by
  unfold enterMember
  dsimp only
  have h : ∀ m, ChangesOnly [.membership, .node, .cycle, .lead, .cells, .sendQueue, .notices] s
      (joinTriggers (fillPresence false (raise .joined none (s.setMembership m).own d (s.setMembership m)))) := fun m =>
    ((((setMembership_changes _ _).mono (by decide)).after (raise_changes _ _ _ _ _)).after (fillPresence_changes _ _)).after
      (joinTriggers_changes _)
  split
  · exact h _
  · split
    · exact (h _).after (takeLead_changes _ _)
    · exact (h _).after (setCycle_keeps_clock _ _ (by simp [Block.same]))

theorem enterLeaving_changes (s : State) :
    ChangesOnly [.membership, .node, .cycle, .lead, .cells, .sendQueue, .slots, .notices] s (enterLeaving s) := by
  unfold enterLeaving
  dsimp only
  have h : ChangesOnly [.membership, .node, .cycle, .lead, .cells, .sendQueue, .slots, .notices] s
      ((flushWaiting (abandonSlots (dropLead 1 s))).setNode .leaving) :=
    ((((dropLead_changes _ _).mono (by decide)).after (abandonSlots_changes _)).after (flushWaiting_changes _)).after
      (setNode_changes _ _)
  split
  · exact h
  · exact h.after (fillPresence_changes _ _)

theorem clearTable_changes (s : State) : ChangesOnly [.cells] s (clearTable s) := setCells_changes _ _

theorem enterDetached_changes (d : Nat) (s : State) :
    ChangesOnly [.membership, .node, .line, .driver, .cycle, .clock, .lead, .cells, .sendQueue, .flight, .slots, .notices] s (enterDetached d s) := by
  unfold enterDetached
  dsimp only
  exact ((((((((setNode_changes _ _).mono (by decide)).after (abandonSlots_changes _)).after (raise_changes _ _ _ _ _)).after
    (setMembership_changes _ _)).after (receiverOff_changes _)).after (stopCycle_changes _)).after (flushAll_changes _)).after
    (clearTable_changes _)

theorem enterCutOff_changes (s : State) :
    ChangesOnly [.membership, .node, .line, .driver, .cycle, .lead, .cells, .sendQueue, .flight, .slots, .notices] s (enterCutOff s) := by
  unfold enterCutOff
  dsimp only
  exact ((((((setNode_changes _ _).mono (by decide)).after (dropLead_changes _ _)).after (abandonSlots_changes _)).after
    (raise_changes _ _ _ _ _)).after (flushAll_changes _)).after (releaseDriver_changes _)

theorem enterHalted_changes (k : Nat) (s : State) :
    ChangesOnly [.membership, .node, .line, .driver, .cycle, .clock, .lead, .cells, .sendQueue, .flight, .slots, .notices] s (enterHalted k s) := by
  unfold enterHalted
  dsimp only
  exact (((((((setNode_changes _ _).mono (by decide)).after (dropLead_changes _ _)).after (abandonSlots_changes _)).after
    (raise_changes _ _ _ _ _)).after (receiverOff_changes _)).after (stopCycle_changes _)).after (flushAll_changes _)

theorem fallSilent_changes (s : State) :
    ChangesOnly [.membership, .node, .line, .driver, .cycle, .lead, .cells, .sendQueue, .flight, .slots, .notices] s (fallSilent s) := by
  unfold fallSilent
  split
  · exact enterCutOff_changes _
  · exact .refl s

theorem recover_changes (s : State) :
    ChangesOnly [.standing, .level, .membership, .node, .line, .cycle, .clock, .lead, .notices] s (recover s) := by
  unfold recover
  dsimp only
  have h : ∀ u n, ChangesOnly [.standing, .level, .membership, .node, .line, .cycle, .clock, .lead, .notices] s
      (raise .recovered none 0 0 (raise .standing none 0 n (s.setStandingUnit u))) := fun u n =>
    (((setStandingUnit_changes _ _).mono (by decide)).after (raise_changes _ _ _ _ _)).after (raise_changes _ _ _ _ _)
  split
  · exact (h _ _).after (enterListening_changes _)
  · exact h _ _

/-! ## The cycle start -/

theorem tally_changes (b : Bool) (s : State) : ChangesOnly [.membership] s (tally b s) := setMembership_keeps_node _ _ rfl

theorem presenceTurn_changes (s : State) : ChangesOnly [.membership, .sendQueue] s (presenceTurn s) := by
  unfold presenceTurn
  split
  · exact ((setMembership_keeps_node s _ (by rfl)).mono (by decide)).trans (fillPresence_changes _ _)
  · exact .refl s

theorem presenceCycle_changes (s : State) : ChangesOnly [.membership, .sendQueue] s (presenceCycle s) := by
  unfold presenceCycle
  split
  · exact ((setMembership_keeps_node s _ (by rfl)).mono (by decide)).trans (presenceTurn_changes _)
  · exact .refl s

theorem slotsCycle_changes (s : State) : ChangesOnly [.slots, .sendQueue, .notices] s (slotsCycle s) := by
  unfold slotsCycle
  refine ((setSlots_changes _ _).mono (by decide)).trans (ChangesOnly.foldl _ (fun t i => ?_) _ _)
  split
  · exact endTry_changes _ _
  · exact .refl t

theorem doWork_changes (taken : Option Station) (ff : Bool) (s : State) (w : CycleWork) :
    ChangesOnly [.membership, .cells, .slots, .sendQueue, .notices] s (doWork taken ff s w) := by
  cases w with
  | roster st =>
    show ChangesOnly _ s (if taken = some st then s else rosterCycle st ff s)
    split
    · exact .refl s
    · exact rosterCycle_changes _ _ _
  | cells => exact (cellsCycle_changes s).mono (by decide)
  | slots => exact (slotsCycle_changes s).mono (by decide)
  | presence => exact (presenceCycle_changes s).mono (by decide)

theorem judgeListening_changes (s : State) :
    ChangesOnly [.membership, .node, .cycle, .lead, .cells, .sendQueue, .notices] s (judgeListening s) := by
  unfold judgeListening
  split
  · split
    · exact enterMember_changes _ _
    · exact .refl s
  · exact .refl s

/-- A cycle start leaves the clock as the Cycle Unit has set it. -/
theorem cycleEffects_changes (mark taken : Option Station) (ties : Ties) (s : State) :
    ChangesOnly [.snapshots, .counters, .membership, .node, .cycle, .lead, .cells, .slots, .sendQueue, .notices, .posted] s
      (cycleEffects mark taken ties s) := by
  have h : ∀ t, ChangesOnly [.snapshots, .counters, .membership, .node, .cycle, .lead, .cells, .slots, .sendQueue, .notices, .posted] t
      (match mark with | some st => if t.node = .member then freeze st t else t | none => t) := fun t => by
    split
    · split
      · exact (freeze_changes _ _).mono (by decide)
      · exact .refl t
    · exact .refl t
  have k : ∀ t, ChangesOnly [.snapshots, .counters, .membership, .node, .cycle, .lead, .cells, .slots, .sendQueue, .notices, .posted] t
      (if t.node = .listening then tally taken.isSome t else t) := fun t => by
    split
    · exact (tally_changes _ _).mono (by decide)
    · exact .refl t
  have j : ∀ t, ChangesOnly [.snapshots, .counters, .membership, .node, .cycle, .lead, .cells, .slots, .sendQueue, .notices, .posted] t
      (if t.node = .listening then judgeListening (deliver ties.turns t) else t) := fun t => by
    split
    · exact ((deliver_changes _ _).mono (by decide)).after (judgeListening_changes _)
    · exact .refl t
  unfold cycleEffects
  exact (((h _).trans (k _)).trans (ChangesOnly.foldl _ (fun t w => (doWork_changes _ _ t w).mono (by decide)) _ _)).trans
    (j _)

end Sys2Proof.Machine
end

