-- ==== Sys2Proof/Laws/Meanings.lean ====
section
/-! SUPPORT. Which parts of the state each command's effect changes, before its notices reach the queue. -/

namespace Sys2Proof.Machine

set_option Elab.async false

/-! ## Commands -/

/-- With nothing in the outbox there is nothing to deliver. -/
theorem deliver_of_empty (turns : List Source) (s : State) (h : s.notices.outbox = []) : deliver turns s = s := by
  have ha : arrange turns [] = [] := by
    induction turns with
    | nil => rfl
    | cons t ts ih => simpa [arrange] using ih
  have hs : s.setNotices { s.notices with outbox := [] } = s := by
    cases s with
    | mk pe ir ph po li su co me cy ce sq sl sn no lo =>
      cases no
      simp_all [State.setNotices]
  simp [deliver, h, ha, hs]

/-- An event out of reset is its effect, then the delivery of its notices. -/
theorem event_eq (turns : List Source) (f : State → State) (s : State) (h : s.inReset = false) :
    event turns f s = .next (deliver turns (f s)) := by
  simp [event, h]

/-- In reset an event changes nothing. -/
theorem event_inReset (turns : List Source) (f : State → State) (s : State) (h : s.inReset = true) : event turns f s = .next s := by
  simp [event, h]

/-- A transaction that may begin is its effect, then the delivery of its notices. -/
theorem transaction_eq (turns : List Source) (f : State → State) (s : State) (h : s.inReset = false) (hp : s.pselHeld = false) :
    transaction turns f s = .next (deliver turns (f s)) := by
  simp [transaction, event, h, hp]

/-- While PSEL is low from before RESET rose, a transaction has no effect. -/
theorem transaction_held (turns : List Source) (f : State → State) (s : State) (h : s.inReset = false) (hp : s.pselHeld = true) :
    transaction turns f s = .next (deliver turns s) := by
  simp [transaction, event, h, hp]

/-- A request out of reset and out of LOADING is its owner's effect, then the delivery of its notices. -/
theorem request_eq (turns : List Source) (f : State → State) (s : State) (h : s.inReset = false) (hp : s.pselHeld = false)
    (hn : s.node ≠ .loading) : request turns f s = .next (deliver turns (f s)) := by
  simp [request, transaction, event, h, hp, hn]

/-- A request in LOADING is answered BUSY. -/
theorem request_loading (turns : List Source) (f : State → State) (s : State) (h : s.inReset = false) (hp : s.pselHeld = false)
    (hn : s.node = .loading) : request turns f s = .next (deliver turns (respond .busy [] s)) := by
  simp [request, transaction, event, h, hp, hn]

/-- What a transaction's effect leaves alone, the transaction leaves alone, but for the delivery of notices. -/
theorem transaction_changes {ps : List Block} (turns : List Source) (f : State → State) (s t : State)
    (hf : ∀ u, ChangesOnly ps u (f u)) (h : transaction turns f s = .next t)
    (hp : ∀ b ∈ [Block.counters, .notices, .posted], b ∈ ps) : ChangesOnly ps s t := by
  simp only [transaction, event, Host.Outcome.next.injEq] at h
  subst h
  split
  · exact .refl s
  · refine ChangesOnly.after ?_ (deliver_changes _ _) hp
    split
    · exact .refl s
    · exact hf s

/-! ## Start-up -/

theorem loadStore_changes (p : Params) (rs : List (CellNo × CellConfig)) (s : State) :
    ChangesOnly [.loader, .params, .cells, .membership, .notices, .posted] s (loadStore p rs s) := by
  unfold loadStore
  exact (((((setLoader_changes _ _).mono (by decide)).trans
    (ChangesOnly.foldl _ (fun t r => (setCell_changes _ _ _).mono (by decide)) _ _)).after
    (setMembership_keeps_node _ _ (by rfl))).after (judgeAttn_changes _))

theorem endPreload_changes (s : State) : ChangesOnly [.loader, .membership, .node] s (endPreload s) := by
  unfold endPreload
  exact ((setLoader_keeps_params _ _ (by rfl)).mono (by decide)).after (setNode_changes _ _)

theorem joinByStrap_changes (s : State) :
    ChangesOnly [.loader, .membership, .node, .line, .cycle, .clock, .lead] s (joinByStrap s) := by
  unfold joinByStrap
  split
  · exact joinLine_changes _
  · exact .refl s

theorem finishPreload_changes (m : List Level) (r : Level) (s : State) :
    ChangesOnly [.loader, .params, .cells, .membership, .node, .line, .cycle, .clock, .lead, .notices, .posted] s
      (finishPreload m r s) := by
  unfold finishPreload
  split
  · exact ((setLoader_keeps_params _ _ (by rfl)).mono (by decide)).after (endPreload_changes _)
  · exact ((setLoader_keeps_params _ _ (by rfl)).mono (by decide)).after (endPreload_changes _)
  · exact (((loadStore_changes _ _ _).mono (by decide)).after (endPreload_changes _)).after (joinByStrap_changes _)

/-! ## Requests -/

theorem cancelCell_changes (c : CellNo) (s : State) : ChangesOnly [.sendQueue, .slots, .port] s (cancelCell c s) := by
  have hq : ∀ q : SendQueue, q.inFlight = s.sendQueue.inFlight → ChangesOnly [.sendQueue, .slots, .port] s (s.setSendQueue q) :=
    fun q h => (setSendQueue_keeps_flight s q h).mono (by decide)
  unfold cancelCell
  dsimp only
  repeat' split
  · exact (hq _ (by simp)).after (respond_changes _ _ _)
  · unfold cancelWaiting
    exact (((hq _ (by simp)).after (slotCancelled_changes _ _)).after (refill_changes _)).after (respond_changes _ _ _)
  · exact (hq _ (by simp)).after (respond_changes _ _ _)
  · exact ((freeSlot_changes _ _).mono (by decide)).after (respond_changes _ _ _)
  · exact (respond_changes _ _ _).mono (by decide)
  · exact (respond_changes _ _ _).mono (by decide)

theorem configureCell_changes (c : CellNo) (r : BitVec 40) (s : State) : ChangesOnly [.cells, .port] s (configureCell c r s) := by
  unfold configureCell
  split
  · exact ((setCell_changes _ _ _).mono (by decide)).after (respond_changes _ _ _)
  · exact (respond_changes _ _ _).mono (by decide)

theorem Membership.setEntry_node (m : Membership) (st : Station) (e : RosterEntry) : (m.setEntry st e).node = m.node := by
  unfold Membership.setEntry
  split <;> rfl

theorem moveStation_changes (a b : Station) (s : State) : ChangesOnly [.membership, .cells] s (moveStation a b s) := by
  unfold moveStation
  dsimp only
  split
  · exact .refl s
  · exact ((setMembership_keeps_node _ _ (by simp [Membership.setEntry_node])).mono (by decide)).after (setCells_changes _ _)

theorem configureNode_changes (n : Byte) (v : BitVec 40) (s : State) :
    ChangesOnly [.loader, .params, .membership, .cells, .notices, .posted, .port] s (configureNode n v s) := by
  unfold configureNode
  split
  · exact ((((setLoader_changes _ _).mono (by decide)).after (moveStation_changes _ _ _)).after (judgeAttn_changes _)).after
      (respond_changes _ _ _)
  · exact (respond_changes _ _ _).mono (by decide)

theorem configure_changes {ps : List Block} (f : State → State) (s : State) (hp : Block.port ∈ ps)
    (hf : ChangesOnly ps s (f s)) : ChangesOnly ps s (configure f s) := by
  unfold configure
  split
  · exact (respond_changes _ _ _).mono (by simpa using hp)
  · split
    · exact (respond_changes _ _ _).mono (by simpa using hp)
    · exact hf

theorem detachNode_changes (s : State) :
    ChangesOnly [.membership, .node, .line, .driver, .cycle, .clock, .lead, .cells, .sendQueue, .flight, .slots, .notices, .port] s
      (detachNode s) := by
  unfold detachNode
  split
  · exact ((enterLeaving_changes _).mono (by decide)).after (respondNode_changes _ _)
  · split
    · exact ((enterDetached_changes _ _).mono (by decide)).after (respondNode_changes _ _)
    · exact (respondNode_changes _ _).mono (by decide)

theorem joinNode_changes (s : State) :
    ChangesOnly [.loader, .membership, .node, .line, .cycle, .clock, .lead, .port] s (joinNode s) := by
  unfold joinNode
  split
  · split
    · exact (respondNode_changes _ _).mono (by decide)
    · exact ((joinLine_changes _).mono (by decide)).after (respondNode_changes _ _)
  · exact (respondNode_changes _ _).mono (by decide)

theorem rejoinNode_changes (s : State) :
    ChangesOnly [.membership, .node, .line, .cycle, .clock, .lead, .port] s (rejoinNode s) := by
  unfold rejoinNode
  split
  · exact ((enterListening_changes _).mono (by decide)).after (respondNode_changes _ _)
  · exact (respondNode_changes _ _).mono (by decide)

theorem fetchCell_changes (c : CellNo) (s : State) : ChangesOnly [.slots, .sendQueue, .port] s (fetchCell c s) := by
  have hp : ∀ st r, ChangesOnly [.slots, .sendQueue, .port] s (respond st r s) := fun _ _ => (respond_changes _ _ _).mono (by decide)
  unfold fetchCell
  dsimp only
  repeat' split
  · exact hp _ _
  · exact hp _ _
  · exact hp _ _
  · exact hp _ _
  · unfold beginFetch
    exact (((setSlot_changes _ _ _).mono (by decide)).after (askFetchEntry_changes _ _)).after (respond_changes _ _ _)
  · exact hp _ _

theorem takeNotice_changes (s : State) : ChangesOnly [.notices, .posted, .port] s (takeNotice s) := by
  unfold takeNotice
  split
  · exact (respond_changes _ _ _).mono (by decide)
  · exact (((setNotices_changes _ _).mono (by decide)).after (judgeAttn_changes _)).after (respond_changes _ _ _)

theorem readCounters_changes (b : Byte) (s : State) : ChangesOnly [.counters, .lineCounters, .port] s (readCounters b s) := by
  unfold readCounters
  split
  · exact (respond_changes _ _ _).mono (by decide)
  · split
    · exact ((setCounters_changes _ _).mono (by decide)).after (respond_changes _ _ _)
    · exact (respond_changes _ _ _).mono (by decide)

theorem clearSticky_changes (s : State) : ChangesOnly [.standing, .cycle, .clock, .lead, .notices, .posted] s (clearSticky s) := by
  unfold clearSticky
  exact ((((setStandingUnit_keeps_level _ _ (by rfl)).mono (by decide)).after (setCycle_changes _ _)).after
    (setNotices_changes _ _)).after (judgeAttn_changes _)

theorem readStatus_changes (s : State) : ChangesOnly [.standing, .cycle, .clock, .lead, .notices, .posted, .port] s (readStatus s) :=
  ((clearSticky_changes _).mono (by decide)).after (respond_changes _ _ _)

theorem readCell_changes (c : CellNo) (s : State) : ChangesOnly [.port] s (readCell c s) := respond_changes _ _ _

theorem readRoster_changes (b : Byte) (s : State) : ChangesOnly [.port] s (readRoster b s) := by
  unfold readRoster
  split <;> exact respond_changes _ _ _

theorem changeValue_changes (c : CellNo) (v : List Byte) (s : State) :
    ChangesOnly [.cells, .sendQueue, .notices] s (changeValue c v s) := by
  unfold changeValue
  dsimp only
  split
  · exact ((setCell_changes _ _ _).mono (by decide)).after (raiseChange_changes _ _)
  · exact (setCell_changes _ _ _).mono (by decide)

theorem writeCell_changes (c : CellNo) (v : List Byte) (s : State) :
    ChangesOnly [.cells, .sendQueue, .notices, .port] s (writeCell c v s) := by
  have hp : ∀ st r, ChangesOnly [.cells, .sendQueue, .notices, .port] s (respond st r s) :=
    fun _ _ => (respond_changes _ _ _).mono (by decide)
  unfold writeCell
  dsimp only
  repeat' split
  · exact hp _ _
  · exact hp _ _
  · exact hp _ _
  · exact hp _ _
  · exact hp _ _
  · exact ((changeValue_changes _ _ _).mono (by decide)).after (respond_changes _ _ _)

theorem freeArea_changes (s : State) : ChangesOnly [.snapshots, .port] s (freeArea s) := by
  unfold freeArea
  split
  · exact ((setSnapshots_changes _ _).mono (by decide)).after (respond_changes _ _ _)
  · exact (respond_changes _ _ _).mono (by decide)

theorem openArea_changes (s : State) : ChangesOnly [.snapshots, .counters, .notices, .port] s (openArea s) := by
  unfold openArea
  split
  · exact (respond_changes _ _ _).mono (by decide)
  · split
    · unfold openNewest
      dsimp only
      refine ChangesOnly.after ?_ (respond_changes _ _ _)
      split
      · exact ((setSnapshots_changes _ _).mono (by decide)).after (count_changes_other _ _ _)
      · exact (setSnapshots_changes _ _).mono (by decide)
    · exact (respond_changes _ _ _).mono (by decide)

theorem readCopy_changes (c : CellNo) (s : State) : ChangesOnly [.port] s (readCopy c s) := by
  unfold readCopy
  split
  · exact respond_changes _ _ _
  · split <;> exact respond_changes _ _ _

/-! ## The Cycle Unit -/

theorem adopt_changes (n : CycleNo) (st : Station) (s : State) : ChangesOnly [.cycle, .clock, .lead, .notices] s (adopt n st s) := by
  unfold adopt
  dsimp only
  have h : ∀ x, ChangesOnly [.cycle, .clock, .lead, .notices] s (s.setCycle x) := fun x => (setCycle_changes _ _).mono (by decide)
  repeat' split
  · exact (h _).after (raise_changes _ _ _ _ _)
  · exact h _
  · exact (h _).after (raise_changes _ _ _ _ _)

theorem meetMark_changes (st : Station) (s : State) : ChangesOnly [.cycle, .lead, .notices] s (meetMark st s) := by
  unfold meetMark
  dsimp only
  split
  · split
    · exact ((setCycle_keeps_clock s _ (by simp [Block.same])).mono (by decide)).after (raise_changes _ _ _ _ _)
    · exact (setCycle_keeps_clock s _ (by simp [Block.same])).mono (by decide)
  · exact (setCycle_keeps_clock s _ (by simp [Block.same])).mono (by decide)

theorem takenMark_changes (st : Station) (n : CycleNo) (ties : Ties) (s : State) :
    ChangesOnly [.snapshots, .counters, .membership, .node, .cycle, .clock, .lead, .cells, .slots, .sendQueue, .notices, .posted] s
      (takenMark st n ties s) :=
  (((adopt_changes _ _ _).mono (by decide)).after (meetMark_changes _ _)).after (cycleEffects_changes _ _ _ _)

theorem ownMark_changes (n : CycleNo) (ties : Ties) (s : State) :
    ChangesOnly [.snapshots, .counters, .membership, .node, .cycle, .clock, .lead, .cells, .slots, .sendQueue, .notices, .posted] s
      (ownMark n ties s) :=
  (((emptyMark_changes _).mono (by decide)).after (adopt_changes _ _ _)).after (cycleEffects_changes _ _ _ _)

theorem localCycle_changes (ties : Ties) (s : State) :
    ChangesOnly [.snapshots, .counters, .membership, .node, .cycle, .clock, .lead, .cells, .slots, .sendQueue, .notices, .posted] s
      (localCycle ties s) := by
  unfold localCycle
  exact ((setCycle_changes _ _).mono (by decide)).after (cycleEffects_changes _ _ _ _)

theorem advance_changes (n : Nat) (s : State) :
    ChangesOnly [.cycle, .clock, .line, .driver, .counters, .lineCounters, .notices] s (advance n s) := by
  have h : ChangesOnly [.line, .driver, .counters, .lineCounters, .notices] s (passVeto n (passSymbols n s)) :=
    ((passSymbols_changes n s).mono (by decide)).trans (passVeto_changes n _)
  unfold advance
  split
  · exact (h.mono (by decide)).trans (fun b => by cases b <;> simp [Block.same, h.cycle])
  · exact .refl s

theorem localCycleStart_changes (ties : Ties) (s : State) :
    ChangesOnly Block.timely s
      (localCycleStart ties s) := by
  unfold localCycleStart
  split
  · exact ((advance_changes _ _).mono (by decide)).after (localCycle_changes _ _)
  · exact .refl s

theorem markFill_changes (s : State) :
    ChangesOnly [.cycle, .clock, .line, .driver, .counters, .lineCounters, .notices] s (markFill s) := by
  unfold markFill
  split
  · exact (advance_changes _ _).after (fillMark_changes _)
  · exact .refl s

theorem lossOfSync_changes (ties : Ties) (s : State) :
    ChangesOnly Block.timely s
      (lossOfSync ties s) := by
  unfold lossOfSync
  dsimp only
  split
  · exact (((((advance_changes _ _).mono (by decide)).after (setCycle_changes _ _)).after (raise_changes _ _ _ _ _)).after
      (deliver_changes _ _)).after (localCycle_changes _ _)
  · exact .refl s

theorem takeOver_changes (s : State) :
    ChangesOnly [.cycle, .clock, .lead, .line, .driver, .counters, .lineCounters, .notices] s (takeOver s) := by
  unfold takeOver
  split
  · split
    · exact ((advance_changes _ _).mono (by decide)).after (takeLead_changes _ _)
    · exact .refl s
  · exact .refl s

/-! ## Sending -/

theorem startFrame_changes (t : Target) (s : State) :
    ChangesOnly [.line, .driver, .sendQueue, .flight, .cycle, .draws] s (startFrame t s) := by
  unfold startFrame
  dsimp only
  have h : ∀ x q n, ChangesOnly [.line, .driver, .sendQueue, .flight, .cycle, .draws] s (((s.setLine x).setSendQueue q).setDraws n) :=
    fun x q n => (((setLine_changes _ _).mono (by decide)).after (setSendQueue_changes _ _)).after (setDraws_changes _ _)
  split
  · exact (h _ _ _).after (setCycle_keeps_clock_and_lead _ _ (by simp [Block.same]) (by rfl))
  · exact h _ _ _

theorem markOutcome_changes (o : OutcomeKind) (f : Frame) (ties : Ties) (s : State) :
    ChangesOnly [.snapshots, .counters, .membership, .node, .cycle, .clock, .lead, .cells, .slots, .sendQueue, .notices, .posted] s
      (markOutcome o f ties s) := by
  unfold markOutcome
  split
  · exact ownMark_changes _ _ _
  · exact ownMark_changes _ _ _
  · exact (setCycle_changes _ _).mono (by decide)

theorem presenceRetry_changes (s : State) : ChangesOnly [.membership] s (presenceRetry s) := by
  unfold presenceRetry
  dsimp only
  split
  · exact emptyPresence_changes _
  · exact setMembership_keeps_node _ _ (by rfl)

theorem presenceEntryAfter_changes (o : OutcomeKind) (s : State) : ChangesOnly [.membership] s (presenceEntryAfter o s) := by
  unfold presenceEntryAfter
  split
  · exact emptyPresence_changes _
  · exact emptyPresence_changes _
  · exact .refl s
  · exact presenceRetry_changes _
  · exact presenceRetry_changes _

theorem presenceOutcome_changes (o : OutcomeKind) (s : State) :
    ChangesOnly [.membership, .node, .line, .driver, .cycle, .clock, .lead, .cells, .sendQueue, .flight, .slots, .notices] s
      (presenceOutcome o s) := by
  unfold presenceOutcome
  dsimp only
  have h : ChangesOnly [.membership, .node, .line, .driver, .cycle, .clock, .lead, .cells, .sendQueue, .flight, .slots, .notices] s
      (presenceEntryAfter o s) := (presenceEntryAfter_changes _ _).mono (by decide)
  split
  · exact h
  · split
    · exact ((emptyPresence_changes _).mono (by decide)).after (fillPresence_changes _ _)
    · split
      · exact h.after (enterDetached_changes _ _)
      · exact h

theorem publicationSent_changes (c : CellNo) (v : Version) (s : State) :
    ChangesOnly [.cells, .sendQueue, .notices] s (publicationSent c v s) := by
  unfold publicationSent
  dsimp only
  have h : ∀ r, ChangesOnly [.cells, .sendQueue, .notices] s
      (refill ((s.setCell c r).setSendQueue ((s.setCell c r).sendQueue.drop c))) := fun r =>
    (((setCell_changes _ _ _).mono (by decide)).after (setSendQueue_keeps_flight _ _ (by simp))).after (refill_changes _)
  split
  · exact (h _).after (raiseChange_changes _ _)
  · exact h _

theorem fetchEnded_changes (c : CellNo) (s : State) : ChangesOnly [.slots, .sendQueue] s (fetchEnded c s) :=
  (((setSendQueue_keeps_flight _ _ (by simp)).mono (by decide)).after (slotAwaits_changes _ _)).after (refill_changes _)

theorem entryCancelled_changes (e : Entry) (o : OutcomeKind) (s : State) :
    ChangesOnly [.slots, .sendQueue, .notices] s (entryCancelled e o s) := by
  unfold entryCancelled
  dsimp only
  refine ChangesOnly.after ?_ (refill_changes _)
  have h : ∀ q : SendQueue, q.inFlight = s.sendQueue.inFlight → ∀ n, ChangesOnly [.slots, .sendQueue, .notices] s
      (raise .sendCancelled (some e.cell) 0 n (s.setSendQueue q)) := fun q hq n =>
    ((setSendQueue_keeps_flight _ _ hq).mono (by decide)).after (raise_changes _ _ _ _ _)
  split
  · exact (h _ (by simp) _).after (slotCancelled_changes _ _)
  · exact h _ (by simp) _

theorem entryRetry_changes (e : Entry) (o : OutcomeKind) (s : State) :
    ChangesOnly [.slots, .sendQueue, .notices] s (entryRetry e o s) := by
  unfold entryRetry
  dsimp only
  have h : ∀ q : SendQueue, q.inFlight = s.sendQueue.inFlight → ∀ n, ChangesOnly [.slots, .sendQueue, .notices] s
      (raise .sendFailed (some e.cell) 0 n (s.setSendQueue q)) := fun q hq n =>
    ((setSendQueue_keeps_flight _ _ hq).mono (by decide)).after (raise_changes _ _ _ _ _)
  split
  · refine ChangesOnly.after ?_ (refill_changes _)
    split
    · exact (h _ (by simp) _).after (slotAwaits_changes _ _)
    · exact h _ (by simp) _
  · exact (setSendQueue_keeps_flight _ _ (by simp)).mono (by decide)

theorem entryNotSent_changes (e : Entry) (o : OutcomeKind) (s : State) :
    ChangesOnly [.cells, .slots, .sendQueue, .notices] s (entryNotSent e o s) := by
  unfold entryNotSent
  dsimp only
  have h : ChangesOnly [.cells, .slots, .sendQueue, .notices] s (if e.kind = .publication then clearChangedOf e.cell s else s) := by
    split
    · exact (setCell_changes _ _ _).mono (by decide)
    · exact .refl s
  generalize (if e.kind = .publication then clearChangedOf e.cell s else s) = t at h ⊢
  repeat' split
  · exact h.after (entryCancelled_changes _ _ _)
  · exact h.after (setSendQueue_keeps_flight _ _ (by simp))
  · exact h
  · exact h.after (fetchEnded_changes _ _)
  · exact h.after (entryRetry_changes _ _ _)

theorem entryOutcome_changes (c : CellNo) (f : Frame) (o : OutcomeKind) (s : State) :
    ChangesOnly [.cells, .slots, .sendQueue, .notices] s (entryOutcome c f o s) := by
  unfold entryOutcome
  split
  · exact .refl s
  · split
    · split
      · exact (publicationSent_changes _ _ _).mono (by decide)
      · exact (fetchEnded_changes _ _).mono (by decide)
    · exact entryNotSent_changes _ _ _

theorem handleOutcome_changes (o : OutcomeKind) (ties : Ties) (s : State) :
    ChangesOnly [.snapshots, .counters, .membership, .node, .line, .driver, .cycle, .clock, .lead, .cells, .slots, .sendQueue,
      .flight, .notices, .posted] s (handleOutcome o ties s) := by
  unfold handleOutcome
  split
  · exact .refl s
  · dsimp only
    have h : ∀ q, ChangesOnly [.snapshots, .counters, .membership, .node, .line, .driver, .cycle, .clock, .lead, .cells, .slots,
        .sendQueue, .flight, .notices, .posted] s (s.setSendQueue q) := fun q => (setSendQueue_changes _ _).mono (by decide)
    split
    · exact (h _).after (markOutcome_changes _ _ _ _)
    · exact (h _).after (presenceOutcome_changes _ _)
    · exact (h _).after (entryOutcome_changes _ _ _ _)

/-- After an outcome is handled nothing is in flight. -/
theorem handleOutcome_flight (o : OutcomeKind) (ties : Ties) (s : State) : (handleOutcome o ties s).sendQueue.inFlight = none := by
  unfold handleOutcome
  split
  · assumption
  · dsimp only
    split
    · exact (markOutcome_changes _ _ _ _).flight
    · unfold presenceOutcome
      dsimp only
      split
      · exact (presenceEntryAfter_changes _ _).flight
      · split
        · exact (fillPresence_changes _ _).flight.trans (emptyPresence_changes _).flight
        · split
          · simp [enterDetached, flushAll, clearTable, emptyPresence, emptyMark, clearChanged]
          · exact (presenceEntryAfter_changes _ _).flight
    · exact (entryOutcome_changes _ _ _ _).flight

theorem suspend_changes (s : State) : ChangesOnly [.line] s (suspend s) := setLine_keeps_driver _ _ rfl

theorem outcomeAndFall_changes (o : OutcomeKind) (ties : Ties) (s : State) :
    ChangesOnly [.snapshots, .counters, .membership, .node, .line, .driver, .cycle, .clock, .lead, .cells, .slots, .sendQueue,
      .flight, .notices, .posted] s (outcomeAndFall o ties s) := by
  unfold outcomeAndFall
  split
  · exact ((fallSilent_changes _).mono (by decide)).trans (handleOutcome_changes _ _ _)
  · exact (handleOutcome_changes _ _ _).after (fallSilent_changes _)

theorem standTimeout_changes (s : State) : ChangesOnly [.standing, .level, .line, .driver, .notices] s (standTimeout s) := by
  unfold standTimeout
  dsimp only
  split
  · exact (((raise_changes _ _ _ _ _).mono (by decide)).after (setStandingUnit_changes _ _)).trans (refit_changes _)
  · exact ((raise_changes _ _ _ _ _).mono (by decide)).trans (refit_changes _)

/-- What an outcome of an own frame may change: everything but the queue of commands, the port, the reset and the configuration. -/
theorem outcomeSent_changes (ties : Ties) (s : State) :
    ChangesOnly [.standing, .level, .snapshots, .counters, .lineCounters, .membership, .node, .line, .driver, .cycle, .clock, .lead, .cells, .slots,
      .sendQueue, .flight, .notices, .posted] s (outcomeSent ties s) :=
  (((((endFrame_changes _ _).mono (by decide)).after (suspend_changes _)).after (count_changes _ _ _)).after
    (handleOutcome_changes _ _ _)).after (standOutcome_changes _ _)

theorem outcomeLone_changes (ties : Ties) (s : State) :
    ChangesOnly [.standing, .level, .snapshots, .counters, .lineCounters, .membership, .node, .line, .driver, .cycle, .clock, .lead, .cells, .slots,
      .sendQueue, .flight, .notices, .posted] s (outcomeLone ties s) := by
  unfold outcomeLone
  exact (((((setLine_changes _ _).mono (by decide)).after (suspend_changes _)).after (count_changes _ _ _)).after
    (handleOutcome_changes _ _ _)).after (standOutcome_changes _ _)

theorem outcomeLost_changes (run : Nat) (s : State) :
    ChangesOnly [.standing, .level, .snapshots, .counters, .lineCounters, .membership, .node, .line, .driver, .cycle, .clock, .lead, .cells, .slots,
      .sendQueue, .flight, .notices, .posted] s (outcomeLost run s) := by
  unfold outcomeLost
  exact ((((setLine_changes _ _).mono (by decide)).after (count_changes _ _ _)).after (handleOutcome_changes _ _ _)).after
    (standOutcome_changes _ _)

theorem outcomeVetoed_changes (run : Nat) (ties : Ties) (s : State) :
    ChangesOnly [.standing, .level, .snapshots, .counters, .lineCounters, .membership, .node, .line, .driver, .cycle, .clock, .lead, .cells, .slots,
      .sendQueue, .flight, .notices, .posted] s (outcomeVetoed run ties s) :=
  (((((endFrame_changes _ _).mono (by decide)).after (suspend_changes _)).after (count_changes _ _ _)).after
    (standOutcome_changes _ _)).after (outcomeAndFall_changes _ _ _)

theorem outcomeClash_changes (run : Nat) (ties : Ties) (s : State) :
    ChangesOnly [.standing, .level, .snapshots, .counters, .lineCounters, .membership, .node, .line, .driver, .cycle, .clock, .lead, .cells, .slots,
      .sendQueue, .flight, .notices, .posted] s (outcomeClash run ties s) :=
  ((((((endFrame_changes _ _).mono (by decide)).after (suspend_changes _)).after (count_changes _ _ _)).after
    (standOutcome_changes _ _)).after (dueVeto_changes _ _)).after (outcomeAndFall_changes _ _ _)

theorem driverTimeout_changes (report : Overrun) (s : State) :
    ChangesOnly [.standing, .level, .snapshots, .counters, .lineCounters, .membership, .node, .line, .driver, .cycle, .clock, .lead, .cells, .slots,
      .sendQueue, .flight, .notices, .posted] s (driverTimeout report s) := by
  unfold driverTimeout
  dsimp only
  refine ((((ChangesOnly.trans ?_ ((endFrame_changes _ _).mono (by decide))).after (suspend_changes _)).after (count_changes _ _ _)).after
    (standTimeout_changes _)).after (outcomeAndFall_changes _ _ _)
  split
  · exact (stick_changes _).mono (by decide)
  · exact .refl s

/-! ## A step with no command -/

/-- Time on an empty queue touches neither the queue, nor the port, nor the configuration. -/
theorem tick_changes (s : State) : ChangesOnly (Block.timely ++ [.standing, .level, .flight]) s (tick s) := by
  have h : ∀ (b : Bool) (f : State → State) (t : State), (∀ t, ChangesOnly (Block.timely ++ [.standing, .level, .flight]) t (f t)) →
      ChangesOnly (Block.timely ++ [.standing, .level, .flight]) t (if b then f t else t) := by
    intro b f t hf
    split
    · exact hf t
    · exact .refl t
  unfold tick
  split
  · exact .refl s
  · exact ((((((((advance_changes _ _).mono (by decide)).trans (h _ _ _ fun t => (stick_changes t).mono (by decide))).trans
      (h _ _ _ fun t => (driverTimeout_changes _ t).mono (by decide))).trans
      (h _ _ _ fun t => (lossOfSync_changes _ t).mono (by decide))).trans
      (h _ _ _ fun t => (localCycleStart_changes _ t).mono (by decide))).trans (h _ _ _ fun t => (markFill_changes t).mono (by decide))).trans
      (h _ _ _ fun t => (takeOver_changes t).mono (by decide))).after (deliver_changes _ _)

/-! ## Receiving -/

theorem leavingTaken_changes (st : Station) (ff : Bool) (s : State) :
    ChangesOnly [.membership, .cells, .slots, .sendQueue, .notices] s (leavingTaken st ff s) := by
  unfold leavingTaken
  split
  · exact depart_changes _ _ _ _
  · exact .refl s

theorem presenceTaken_changes (st : Station) (b : RosterState) (d : BitVec 16) (s : State) :
    ChangesOnly [.membership, .notices] s (presenceTaken st b d s) := by
  unfold presenceTaken
  dsimp only
  have h : ∀ e, ChangesOnly [.membership, .notices] s (s.setEntry st e) := fun e => (setEntry_changes _ _ _).mono (by decide)
  repeat' split
  · exact h _
  · exact (h _).after (raise_changes _ _ _ _ _)
  · exact h _
  · exact (h _).after (raise_changes _ _ _ _ _)

theorem updateRoster_changes (f : Frame) (ties : Ties) (s : State) :
    ChangesOnly [.membership, .cells, .slots, .sendQueue, .notices] s (updateRoster f ties s) := by
  unfold updateRoster
  dsimp only
  have h : ∀ e, ChangesOnly [.membership, .cells, .slots, .sendQueue, .notices] s (s.setEntry f.station e) :=
    fun e => (setEntry_changes _ _ _).mono (by decide)
  repeat' split
  · exact (h _).trans (leavingTaken_changes _ _ _)
  · exact (h _).after (presenceTaken_changes _ _ _ _)
  all_goals first
    | exact h _
    | exact .refl s

theorem checkTag_changes (tag : BitVec 8) (s : State) : ChangesOnly [.counters, .notices] s (checkTag tag s) := by
  unfold checkTag
  split
  · exact count_changes_other _ _ _
  · exact .refl s

theorem afterTake_changes (c : CellNo) (st : Station) (tag : BitVec 8) (r : CellRecord) (s : State) :
    ChangesOnly [.counters, .slots, .sendQueue, .notices] s (afterTake c st tag r s) := by
  unfold afterTake
  dsimp only
  have h : ChangesOnly [.counters, .slots, .sendQueue, .notices] s
      (if r.freshness = .stale ∨ r.freshness = .lost then raise .cellFresh (some c) st r.freshness.code s else s) := by
    split
    · exact (raise_changes _ _ _ _ _).mono (by decide)
    · exact .refl s
  split
  · exact (h.after (checkTag_changes _ _)).after (completeFetch_changes _ _ _)
  · exact h.after (checkTag_changes _ _)

theorem winClaim_changes (c : CellNo) (st : Station) (s : State) :
    ChangesOnly [.counters, .sendQueue, .notices] s (winClaim c st s) :=
  (((count_changes_other _ _ _).mono (by decide)).after (raise_changes _ _ _ _ _)).after (trigger_changes _ _ _)

theorem yieldClaim_changes (c : CellNo) (st : Station) (v : Version) (tag : BitVec 8) (d : List Byte) (s : State) :
    ChangesOnly [.cells, .counters, .sendQueue, .notices] s (yieldClaim c st v tag d s) := by
  unfold yieldClaim
  exact (((((setCell_changes _ _ _).mono (by decide)).after (setSendQueue_keeps_flight _ _ (by simp))).after
    (removeWaiting_changes _ _)).after (raise_changes _ _ _ _ _)).after (checkTag_changes _ _)

theorem takeFromNewOwner_changes (c : CellNo) (st : Station) (v : Version) (tag : BitVec 8) (d : List Byte) (s : State) :
    ChangesOnly [.cells, .counters, .slots, .sendQueue, .notices] s (takeFromNewOwner c st v tag d s) := by
  unfold takeFromNewOwner
  dsimp only
  have h : ∀ r, ChangesOnly [.cells, .counters, .slots, .sendQueue, .notices] s (s.setCell c r) :=
    fun r => (setCell_changes _ _ _).mono (by decide)
  split
  · exact ((h _).after (raise_changes _ _ _ _ _)).after (afterTake_changes _ _ _ _ _)
  · exact (h _).after (afterTake_changes _ _ _ _ _)

theorem takeByVersion_changes (c : CellNo) (st : Station) (v : Version) (tag : BitVec 8) (d : List Byte) (s : State) :
    ChangesOnly [.cells, .counters, .slots, .sendQueue, .notices] s (takeByVersion c st v tag d s) := by
  unfold takeByVersion
  dsimp only
  have h : ∀ r, ChangesOnly [.cells, .counters, .slots, .sendQueue, .notices] s (s.setCell c r) :=
    fun r => (setCell_changes _ _ _).mono (by decide)
  repeat' split
  · exact (count_changes_other _ _ _).mono (by decide)
  · exact (h _).after (afterTake_changes _ _ _ _ _)
  · exact ((h _).after (raise_changes _ _ _ _ _)).after (afterTake_changes _ _ _ _ _)
  · exact ((h _).after (count_changes_other _ _ _)).after (afterTake_changes _ _ _ _ _)

theorem takePublication_changes (c : CellNo) (st : Station) (v : Version) (tag : BitVec 8) (d : List Byte) (s : State) :
    ChangesOnly [.cells, .counters, .slots, .sendQueue, .notices] s (takePublication c st v tag d s) := by
  unfold takePublication takeReplica
  dsimp only
  repeat' split
  · exact .refl s
  · exact (raise_changes _ _ _ _ _).mono (by decide)
  · exact (winClaim_changes _ _ _).mono (by decide)
  · exact (yieldClaim_changes _ _ _ _ _ _).mono (by decide)
  · exact takeFromNewOwner_changes _ _ _ _ _ _
  · exact takeByVersion_changes _ _ _ _ _ _
  · exact (count_changes_other _ _ _).mono (by decide)

theorem suppress_changes (c : CellNo) (s : State) : ChangesOnly [.slots, .sendQueue] s (suppress c s) := by
  unfold suppress
  repeat' split
  · exact ((slotAwaits_changes _ _).mono (by decide)).after (removeWaiting_changes _ _)
  · exact .refl s
  · exact .refl s

theorem takeFetch_changes (c : CellNo) (s : State) : ChangesOnly [.slots, .sendQueue, .notices] s (takeFetch c s) := by
  unfold takeFetch
  dsimp only
  have h : ChangesOnly [.slots, .sendQueue, .notices] s (suppress c s) := (suppress_changes _ _).mono (by decide)
  split
  · exact h.after (trigger_changes _ _ _)
  · exact h

theorem passOn_changes (f : Frame) (ties : Ties) (s : State) :
    ChangesOnly [.snapshots, .counters, .membership, .node, .cycle, .clock, .lead, .cells, .slots, .sendQueue, .notices, .posted] s
      (passOn f ties s) := by
  unfold passOn
  dsimp only
  repeat' split
  all_goals first
    | exact .refl s
    | exact takenMark_changes _ _ _ _
    | exact (takePublication_changes _ _ _ _ _ _).mono (by decide)
    | exact (takeFetch_changes _ _).mono (by decide)

theorem admitFrame_changes (f : Frame) (ties : Ties) (s : State) :
    ChangesOnly [.snapshots, .counters, .membership, .node, .line, .driver, .cycle, .clock, .lead, .cells, .slots, .sendQueue,
      .flight, .notices, .posted] s (admitFrame f ties s) := by
  unfold admitFrame
  split
  · exact (enterHalted_changes _ _).mono (by decide)
  · exact ((updateRoster_changes _ _ _).mono (by decide)).after (passOn_changes _ _ _)

theorem acknowledge_changes (s : State) : ChangesOnly [.line] s (acknowledge s) := setLine_keeps_driver _ _ rfl

theorem takeFrame_changes (f : Frame) (ties : Ties) (s : State) :
    ChangesOnly [.standing, .level, .snapshots, .counters, .lineCounters, .membership, .node, .line, .driver, .cycle, .clock, .lead, .cells, .slots,
      .sendQueue, .flight, .notices, .posted] s (takeFrame f ties s) :=
  (((((acknowledge_changes _).mono (by decide)).after (endFrame_changes _ _)).after (count_changes _ _ _)).after
    (admitFrame_changes _ _ _)).after (standTake_changes _)

theorem faultFound_changes (kind : FaultKind) (run : Nat) (s : State) :
    ChangesOnly [.standing, .level, .counters, .lineCounters, .line, .driver, .notices] s (faultFound kind run s) :=
  ((((endFrame_changes _ _).mono (by decide)).after (count_changes _ _ _)).after (standFault_changes _)).after (dueVeto_changes _ _)

theorem lineSticks_changes (s : State) :
    ChangesOnly [.line, .driver, .standing, .counters, .lineCounters, .notices] s (lineSticks s) :=
  ((finishVeto_changes s).mono (by decide)).after (stick_changes _)

theorem dominantSeen_changes (s : State) :
    ChangesOnly [.line, .driver, .standing, .counters, .lineCounters, .notices] s (dominantSeen s) := by
  unfold dominantSeen
  repeat' split
  all_goals first | exact (setLine_changes _ _).mono (by decide) | exact .refl s | exact lineSticks_changes s

theorem lineQuiet_changes (s : State) : ChangesOnly [.line, .driver, .notices] s (lineQuiet s) := by
  unfold lineQuiet
  dsimp only
  split
  · exact ((setLine_changes _ _).mono (by decide)).after (raise_changes _ _ _ _ _)
  · exact (setLine_changes _ _).mono (by decide)

theorem countQuiet_changes (s : State) :
    ChangesOnly [.standing, .level, .membership, .node, .line, .cycle, .clock, .lead, .notices] s (countQuiet s) := by
  unfold countQuiet
  dsimp only
  repeat' split
  · exact recover_changes _
  · exact (setStandingUnit_changes _ _).mono (by decide)
  · exact .refl s

/-! ## The bits of a byte -/

/-- A byte made from levels is the number they spell. -/
theorem byteOfBits_eq_ofBits (levels : List Level) : byteOfBits levels = BitVec.ofNat 8 (ofBits levels) := rfl

/-- The bits of a byte, most significant first, make that byte. -/
theorem byteOfBits_bitsOf (b : Byte) : byteOfBits (bitsOf b) = b := by decide +revert

end Sys2Proof.Machine
end

