-- ==== Sys2Proof/Laws/PerInstr.lean ====
section
/-! SUPPORT. One lemma per command: the first byte a host sends for it names a request exactly when the command is not UNKNOWN, and a
command that is no request has no bytes (R178, R179). -/

namespace Sys2Proof.Laws.RequestCodes

set_option Elab.async false

/-- The code byte of a well-formed command: it names a request unless the command is UNKNOWN, whose code byte names none (R179). -/
def Statement (i : Instr) : Prop :=
  i.wellFormed = true → ∀ code ops, requestBytes i = some (code :: ops) → namesRequest code = decide (∀ c, i ≠ .unknown c)

theorem hardReset : Statement .hardReset := by
  intro _ k ops h
  simp [requestBytes] at h

theorem resetRelease (levels : ReleaseLevels) : Statement (.resetRelease levels) := by
  intro _ k ops h
  simp [requestBytes] at h

theorem preloadEnd (levels : List Level) (restLevel : Level) : Statement (.preloadEnd levels restLevel) := by
  intro _ k ops h
  simp [requestBytes] at h

theorem transactionAbort : Statement .transactionAbort := by
  intro _ k ops h
  simp [requestBytes] at h

theorem unknown (code : Byte) : Statement (.unknown code) := by
  intro hw k ops h
  simp only [requestBytes, Option.some.injEq, List.cons.injEq] at h
  simp only [Instr.wellFormed, Bool.not_eq_true'] at hw
  rw [← h.1, hw]
  simp

theorem cancel (cell : CellNo) : Statement (.cancel cell) := by
  intro _ k ops h
  simp only [requestBytes, Option.some.injEq, List.cons.injEq] at h
  rw [← h.1]
  simp [namesRequest, requestCodes]

theorem cfgcell (cell : CellNo) (record : BitVec 40) : Statement (.cfgcell cell record) := by
  intro _ k ops h
  simp only [requestBytes, Option.some.injEq, List.cons.injEq] at h
  rw [← h.1]
  simp [namesRequest, requestCodes]

theorem cfgnode (number : Byte) (value : BitVec 40) : Statement (.cfgnode number value) := by
  intro _ k ops h
  simp only [requestBytes, Option.some.injEq, List.cons.injEq] at h
  rw [← h.1]
  simp [namesRequest, requestCodes]

theorem detach (ties : Ties) : Statement (.detach ties) := by
  intro _ k ops h
  simp only [requestBytes, Option.some.injEq, List.cons.injEq] at h
  rw [← h.1]
  simp [namesRequest, requestCodes]

theorem fetch (cell : CellNo) : Statement (.fetch cell) := by
  intro _ k ops h
  simp only [requestBytes, Option.some.injEq, List.cons.injEq] at h
  rw [← h.1]
  simp [namesRequest, requestCodes]

theorem join : Statement .join := by
  intro _ k ops h
  simp only [requestBytes, Option.some.injEq, List.cons.injEq] at h
  rw [← h.1]
  simp [namesRequest, requestCodes]

theorem notake : Statement .notake := by
  intro _ k ops h
  simp only [requestBytes, Option.some.injEq, List.cons.injEq] at h
  rw [← h.1]
  simp [namesRequest, requestCodes]

theorem rdcell (cell : CellNo) : Statement (.rdcell cell) := by
  intro _ k ops h
  simp only [requestBytes, Option.some.injEq, List.cons.injEq] at h
  rw [← h.1]
  simp [namesRequest, requestCodes]

theorem rdcnt (clear : Byte) : Statement (.rdcnt clear) := by
  intro _ k ops h
  simp only [requestBytes, Option.some.injEq, List.cons.injEq] at h
  rw [← h.1]
  simp [namesRequest, requestCodes]

theorem rdrost (station : Byte) : Statement (.rdrost station) := by
  intro _ k ops h
  simp only [requestBytes, Option.some.injEq, List.cons.injEq] at h
  rw [← h.1]
  simp [namesRequest, requestCodes]

theorem rdstat : Statement .rdstat := by
  intro _ k ops h
  simp only [requestBytes, Option.some.injEq, List.cons.injEq] at h
  rw [← h.1]
  simp [namesRequest, requestCodes]

theorem rejoin : Statement .rejoin := by
  intro _ k ops h
  simp only [requestBytes, Option.some.injEq, List.cons.injEq] at h
  rw [← h.1]
  simp [namesRequest, requestCodes]

theorem restart : Statement .restart := by
  intro _ k ops h
  simp only [requestBytes, Option.some.injEq, List.cons.injEq] at h
  rw [← h.1]
  simp [namesRequest, requestCodes]

theorem snfree : Statement .snfree := by
  intro _ k ops h
  simp only [requestBytes, Option.some.injEq, List.cons.injEq] at h
  rw [← h.1]
  simp [namesRequest, requestCodes]

theorem snopen : Statement .snopen := by
  intro _ k ops h
  simp only [requestBytes, Option.some.injEq, List.cons.injEq] at h
  rw [← h.1]
  simp [namesRequest, requestCodes]

theorem snread (cell : CellNo) : Statement (.snread cell) := by
  intro _ k ops h
  simp only [requestBytes, Option.some.injEq, List.cons.injEq] at h
  rw [← h.1]
  simp [namesRequest, requestCodes]

theorem wrcell (cell : CellNo) (value : List Byte) : Statement (.wrcell cell value) := by
  intro _ k ops h
  simp only [requestBytes, Option.some.injEq, List.cons.injEq] at h
  rw [← h.1]
  simp [namesRequest, requestCodes]

theorem frameStart : Statement .frameStart := by
  intro _ k ops h
  simp [requestBytes] at h

theorem outcomeLost (view : LineView) : Statement (.outcomeLost view) := by
  intro _ k ops h
  simp [requestBytes] at h

theorem outcomeClash (view : LineView) (ties : Ties) : Statement (.outcomeClash view ties) := by
  intro _ k ops h
  simp [requestBytes] at h

theorem outcomeLone (view : LineView) (ties : Ties) : Statement (.outcomeLone view ties) := by
  intro _ k ops h
  simp [requestBytes] at h

theorem outcomeVetoed (view : LineView) (ties : Ties) : Statement (.outcomeVetoed view ties) := by
  intro _ k ops h
  simp [requestBytes] at h

theorem outcomeSent (view : LineView) (ties : Ties) : Statement (.outcomeSent view ties) := by
  intro _ k ops h
  simp [requestBytes] at h

theorem driverTimeout (report : Overrun) : Statement (.driverTimeout report) := by
  intro _ k ops h
  simp [requestBytes] at h

theorem frameTaken (view : FrameView) (ties : Ties) : Statement (.frameTaken view ties) := by
  intro _ k ops h
  simp [requestBytes] at h

theorem receiveFault (view : FaultView) (ties : Ties) : Statement (.receiveFault view ties) := by
  intro _ k ops h
  simp [requestBytes] at h

theorem frameDiscarded (view : LineView) : Statement (.frameDiscarded view) := by
  intro _ k ops h
  simp [requestBytes] at h

theorem quietInterval (ties : Ties) : Statement (.quietInterval ties) := by
  intro _ k ops h
  simp [requestBytes] at h

theorem lineStuck : Statement .lineStuck := by
  intro _ k ops h
  simp [requestBytes] at h

theorem suspensionEnd : Statement .suspensionEnd := by
  intro _ k ops h
  simp [requestBytes] at h

theorem recovery (ties : Ties) : Statement (.recovery ties) := by
  intro _ k ops h
  simp [requestBytes] at h

theorem windowClose : Statement .windowClose := by
  intro _ k ops h
  simp [requestBytes] at h

theorem silenceDeparture (station : Station) (ties : Ties) : Statement (.silenceDeparture station ties) := by
  intro _ k ops h
  simp [requestBytes] at h

theorem listenWindowEnd (ties : Ties) : Statement (.listenWindowEnd ties) := by
  intro _ k ops h
  simp [requestBytes] at h

theorem presenceFill : Statement .presenceFill := by
  intro _ k ops h
  simp [requestBytes] at h

theorem localCycleStart (ties : Ties) : Statement (.localCycleStart ties) := by
  intro _ k ops h
  simp [requestBytes] at h

theorem markFill : Statement .markFill := by
  intro _ k ops h
  simp [requestBytes] at h

theorem lossOfSync (ties : Ties) : Statement (.lossOfSync ties) := by
  intro _ k ops h
  simp [requestBytes] at h

theorem takeover : Statement .takeover := by
  intro _ k ops h
  simp [requestBytes] at h

theorem cellStale (cell : CellNo) : Statement (.cellStale cell) := by
  intro _ k ops h
  simp [requestBytes] at h

theorem cellLost (cell : CellNo) : Statement (.cellLost cell) := by
  intro _ k ops h
  simp [requestBytes] at h

theorem claimRegained (cell : CellNo) (ties : Ties) : Statement (.claimRegained cell ties) := by
  intro _ k ops h
  simp [requestBytes] at h

theorem gapEnd (cell : CellNo) : Statement (.gapEnd cell) := by
  intro _ k ops h
  simp [requestBytes] at h

theorem fetchTryEnd (slot : Fin 4) : Statement (.fetchTryEnd slot) := by
  intro _ k ops h
  simp [requestBytes] at h

theorem startSymbol : Statement .startSymbol := by
  intro _ k ops h
  simp [requestBytes] at h

end Sys2Proof.Laws.RequestCodes
end

