-- ==== Sys2Proof/Tests/Slice0.lean ====
section
/-! SUPPORT. The model's own tests: the smoke test of WellFormed, one step of each command on a small state with the values of the
manual's examples, and for every statement with hypotheses states and operands that meet them, clause by clause. -/

namespace Sys2Proof.Tests

open Sys2Proof Sys2Proof.Machine

set_option Elab.async false

/-! ## Small states -/

/-- The next state of an answer. -/
def after : Result → State
  | .next t => t
  | .fault _ | .refused _ => State.reset

/-- Cell 40: OWN, ON_CHANGE, length 2, G 3, in snapshots. -/
def own40 : CellRecord :=
  ⟨⟨.own, 1, 2, true, .onChange, 1, 0, 3, 0⟩, .own, [0, 0], 4, 12, .never, 0, 0, false, false, 0⟩

/-- Cell 41: OWN, CYCLIC with K 2 and phase 1, length 1. -/
def own41 : CellRecord :=
  ⟨⟨.own, 2, 1, false, .cyclic, 2, 1, 0, 0⟩, .own, [7], 0, 12, .never, 0, 0, false, false, 0⟩

/-- Cell 42: OWN by configuration, YIELDED to station 5. -/
def lent42 : CellRecord :=
  ⟨⟨.own, 1, 1, false, .cyclic, 1, 0, 0, 2⟩, .yielded, [9], 3, 5, .stale, 9, 0, false, false, 0⟩

/-- Cell 55: FOLLOW, owner 5, FRESH, E 2. -/
def follow55 : CellRecord :=
  ⟨⟨.follow, 1, 1, true, .cyclic, 1, 0, 0, 2⟩, .follow, [8], 200, 5, .fresh, 3, 0, false, false, 0⟩

/-- Cell 56: FOLLOW, owner 5, STALE at the age where E 64 makes it LOST. -/
def follow56 : CellRecord :=
  ⟨⟨.follow, 1, 1, false, .cyclic, 1, 0, 0, 64⟩, .follow, [8], 1, 5, .stale, 255, 0, false, false, 0⟩

/-- Cell 57: FOLLOW, no owner yet, E 0. -/
def follow57 : CellRecord :=
  ⟨⟨.follow, 1, 1, false, .cyclic, 1, 0, 0, 0⟩, .follow, [0], 0, 0, .never, 0, 0, false, false, 0⟩

/-- Cell 58: FOLLOW, owner 20, FRESH, E 0: it never ages out. -/
def follow58 : CellRecord :=
  ⟨⟨.follow, 1, 1, false, .cyclic, 1, 0, 0, 0⟩, .follow, [6], 2, 20, .fresh, 255, 0, false, false, 0⟩

/-- Station 12 in CONFIG, three straps clear, the cells above configured. -/
def config : State := { State.reset with
  loader := { Loader.reset with params := { Params.default with station := 12 } }
  membership := { Membership.reset with roster := rosterReset 12 }
  cells := (((((((State.reset.cells.set 40 own40).set 41 own41).set 42 lent42).set 55 follow55).set 56 follow56).set 57 follow57).set 58
    follow58) }

/-- A peer that was heard with the node's own digest. -/
def peer : RosterEntry := ⟨.present, 13, 0, .active, true, false⟩

/-- Station 12 as MEMBER, with stations 5 and 20 PRESENT, 6 FOREIGN and an IDLE line. -/
def member : State := { config with
  loader := { config.loader with frozen := true }
  membership := { config.membership with
    node := .member
    roster := ((config.membership.roster.set 4 peer).set 19 { peer with silence := 0 }).set 5 { peer with state := .foreign } }
  line := { config.line with lineState := .idle } }

/-- A state in another node state. -/
def inNode (n : NodeState) (s : State) : State := s.setNode n

/-- A state with other fault counts and the standing they give. -/
def counts (send recv : Nat) (s : State) : State :=
  s.setStandingUnit { s.standingUnit with sendFaults := send, recvFaults := recv, standing := standingOf send recv }

/-- A state that tracks a frame. -/
def tracking (t : Track) (s : State) : State := s.setLine { s.line with lineState := .busy, track := t }

/-- A state with a frame of its own on the line. -/
def sending (target : Target) (s : State) : State :=
  let s' := tracking .sending s
  (s'.setLine { s'.line with tx := (s.image target).stream }).setSendQueue { s.sendQueue with inFlight := some ⟨target, s.image target⟩ }

/-- A state so long after the start symbol, or after the last dominant symbol, with a transmit path that may stop. -/
def elapsed (units : Nat) (stall : Option Nat) (s : State) : State := s.setLine { s.line with elapsed := units, stall := stall }

/-- A state with a run of dominant symbols. -/
def dominant (run : Nat) (s : State) : State := s.setLine { s.line with dominantRun := run }

/-- A driver over-run as it is reported, without choices. -/
def overrun (run : Nat) : Overrun := ⟨.reported run, Ties.default⟩

/-- A state with entries in its send queue. -/
def queued (l : List Entry) (s : State) : State := s.setSendQueue { s.sendQueue with entries := l }

/-- A waiting entry of cell 40, and a FETCH entry of cell 55. -/
def change40 : Entry := ⟨.publication, 40, .change, 0, 0, false⟩
def fetch55 : Entry := ⟨.fetch, 55, .request, 0, 1, false⟩

/-- A state with cell 40 in its queue and the cells 41 and 255 deferred. -/
def crowded (s : State) : State := s.setSendQueue { s.sendQueue with entries := [change40], deferred := [(41, .cyclic), (255, .join)] }

/-- A state whose slot 1 holds cell 55. -/
def fetching (st : SlotState) (tries timer : Nat) (s : State) : State := s.setSlots (s.slots.set 1 ⟨st, 55, tries, timer⟩)

/-- A frame as it is reported, without choices. -/
def taken (cls : BitVec 2) (subject : BitVec 8) (station : Station) (body : FrameBody) (s : State) : State :=
  after (exec (.frameTaken (.reported ⟨cls, subject, station, body⟩) Ties.default) s)

/-- A notice. -/
def note (k : NoticeKind) : Notice := ⟨k, none, 0, 0, 0⟩

/-- A memory image: station 12, the defaults, and one record, cell 40 OWN ON_CHANGE. -/
def image : List Byte :=
  [0xA5, 0x3C, 12, 2, 0x03, 0xE8, 4, 1, 0x01, 0x00, 4, 3, 0, 2, 3, 0, 0, 0, 0xFF, 0xFF, 0xFF, 0xFF, 0xFF, 0xFF, 0xFF, 0xFF, 0, 1,
    40, 0x56, 0x10, 0x10, 0x01, 0x80, 0x54, 0x45]

/-- The levels on MDAT that bytes make, each most significant bit first. -/
def levelsOf (bytes : List Byte) : List Level := bytes.flatMap bitsOf

/-- The levels of the image with other parameter bytes or records, its check made right. -/
def imageWith (edit : List Byte → List Byte) : List Level :=
  let l := edit (image.take 34)
  levelsOf (l ++ bytes2 (crcBytes (l.drop 2)).toNat)

/-- A state whose veto is due, or driven. -/
def vetoing (due : Option Nat) (driver : Driver) (s : State) : State := s.setLine { s.line with vetoDue := due, driver := driver }

/-- A driver that drives no veto, as the statements say it. -/
theorem released_drives_no_veto {d : Driver} (h : d = .released) (left : Nat) : d ≠ .veto left := by rw [h]; nofun

/-- A cell record by its fields, as the statement of the ranges lays it out (R181). -/
def recordOf (roleCode cls policyCode snap spare len k ph g e : Nat) : BitVec 40 :=
  BitVec.ofNat 40 (roleCode * 2 ^ 38 + cls * 2 ^ 36 + policyCode * 2 ^ 34 + snap * 2 ^ 33 + spare * 2 ^ 32 + len * 2 ^ 27
    + k * 2 ^ 20 + ph * 2 ^ 14 + g * 2 ^ 7 + e)

/-! ## WellFormed and Decode -/

theorem test_wellFormed_refuses_unknown_with_a_request_code : (Instr.unknown 17).wellFormed = false := by decide
theorem test_wellFormed_refuses_wrcell_of_256_bytes : (Instr.wrcell 1 (List.replicate 256 0)).wellFormed = false := by decide +kernel
theorem test_wellFormed_refuses_frame_of_station_0 :
    (Instr.frameTaken (.reported ⟨1, 40, 0, .fetch⟩) Ties.default).wellFormed = false := by decide
theorem test_wellFormed_refuses_17_data_bytes :
    (Instr.frameTaken (.reported ⟨1, 40, 5, .publication 0 0 (List.replicate 17 0)⟩) Ties.default).wellFormed = false := by decide
theorem test_wellFormed_refuses_silence_of_station_0 : (Instr.silenceDeparture 0 Ties.default).wellFormed = false := by decide
theorem test_wellFormed_refuses_a_dominant_deciding_symbol_without_its_run :
    (Instr.outcomeLost (.reported 0)).wellFormed = false ∧ (Instr.outcomeVetoed (.reported 0) Ties.default).wellFormed = false
      ∧ (Instr.frameDiscarded (.reported 0)).wellFormed = false := by decide
theorem test_wellFormed_refuses_runs_above_7 :
    (Instr.outcomeLost (.reported 8)).wellFormed = false ∧ (Instr.outcomeVetoed (.reported 8) Ties.default).wellFormed = false
      ∧ (Instr.frameDiscarded (.reported 8)).wellFormed = false ∧ (Instr.outcomeClash (.reported 8) Ties.default).wellFormed = false
      ∧ (Instr.receiveFault (.reported .check 8) Ties.default).wellFormed = false := by decide
theorem test_wellFormed_refuses_an_overrun_with_a_run_above_64 :
    (Instr.driverTimeout (overrun 65)).wellFormed = false ∧ (Instr.driverTimeout (overrun 64)).wellFormed = true := by decide
theorem test_wellFormed_refuses_a_run_at_a_recessive_deciding_symbol :
    (Instr.outcomeLone (.reported 1) Ties.default).wellFormed = false
      ∧ (Instr.outcomeSent (.reported 1) Ties.default).wellFormed = false := by decide
theorem test_wellFormed_takes_the_rest :
    (Instr.outcomeLost (.reported 7)).wellFormed = true ∧ (Instr.outcomeSent (.reported 0) Ties.default).wellFormed = true
      ∧ (Instr.unknown 0).wellFormed = true ∧ (Instr.wrcell 1 (List.replicate 255 0)).wellFormed = true
      ∧ (Instr.frameTaken (.reported ⟨1, 40, 31, .publication 0 0 (List.replicate 16 0)⟩) Ties.default).wellFormed = true := by
  decide +kernel
theorem test_no_word_spells_a_command : decodeTableWord 8 17 = none ∧ State.reset.withFetchWord 8 17 = State.reset := ⟨rfl, rfl⟩
theorem test_wrcell_framing :
    commandOf Ties.default [34, 40, 2, 1, 2, 99] = .wrcell 40 [1, 2] ∧ commandOf Ties.default [34, 40, 0] = .wrcell 40 []
      ∧ commandOf Ties.default [34, 40, 2, 1] = .transactionAbort ∧ commandOf Ties.default [34, 40] = .transactionAbort := by decide
/-- RDCELL of cell 55 as the levels on PDI, and the same cut short in its second byte. -/
theorem test_pdi_bits :
    pdiBytes [false, false, true, false, false, false, false, true, false, false, true, true, false, true, true, true] = [33, 55]
      ∧ commandOfBits Ties.default
          [false, false, true, false, false, false, false, true, false, false, true, true, false, true, true, true] = .rdcell 55
      ∧ commandOfBits Ties.default [false, false, true, false, false, false, false, true, false, false, true] = .transactionAbort
      ∧ commandOfBits Ties.default [] = .transactionAbort := by decide
/-- RDCELL of cell 55 in a transaction of five bytes: FFh while code and operand are clocked, the response, FFh after it. -/
theorem test_pdo_bytes :
    (List.range 5).map (pdoByte [33, 55, 0, 0, 0] [0, 0x81]) = [0xFF, 0xFF, 0, 0x81, 0xFF]
      ∧ (List.range 8).map (fun i => pdoLevel true [33, 55, 0, 0, 0] [0, 0x81] (24 + i))
        = [some true, some false, some false, some false, some false, some false, some false, some true]
      ∧ pdoLevel false [33, 55, 0, 0, 0] [0, 0x81] 24 = none := by decide
theorem test_pdo_of_a_short_transaction : (List.range 4).map (pdoByte [34, 40, 2, 1] [9]) = [0xFF, 0xFF, 0xFF, 0xFF] := by decide
/-- The bits of a code byte, and of an operand byte, that the host does not complete are clocked as code or operand (R178). -/
theorem test_pdo_of_an_incomplete_byte :
    pdoLevel true [] [0] 0 = some true ∧ pdoLevel true [33] [0] 8 = some true ∧ pdoLevel true [33, 55] [0] 16 = some false := by decide

/-! ## MDAT (R168) -/

/-- The read request 2Eh 00h 00h, most significant bit first, and MDAT released after it. -/
theorem test_mdat_bits :
    (List.range 9).map (mdatLevel Config.readRequest)
      = [some false, some false, some true, some false, some true, some true, some true, some false, some false]
      ∧ mdatLevel Config.readRequest 23 = some false ∧ mdatLevel Config.readRequest 24 = none ∧ mdatLevel [] 0 = none := by decide
/-- Two bytes read, most significant bit first, and the bits beyond the memory at the rest level. -/
theorem test_memory_bytes_from_levels :
    let levels := [true, false, true, false, false, true, false, true, false, false, true, true]
    (List.range 3).map (memByte levels true) = [0xA5, 0x3F, 0xFF] ∧ (List.range 3).map (memByte levels false) = [0xA5, 0x30, 0] := by
  decide

/-! ## The line: the check, resync symbols, the receiver (R5, R9, R13) -/

theorem test_crc_of_no_symbol_and_of_one : crcBits [] = 0xFFFF#16 ∧ crcBits [true] = 0xFFFE#16 ∧ crcBits [false] = 0x726B#16 := by
  decide
theorem test_resync_symbol_after_six_equal_levels :
    ((insertResync true 0 ((List.replicate 7 false).map (⟨·, .body⟩))).map TxSymbol.level)
      = [false, false, false, false, false, false, true, false] := by decide
theorem test_mark_is_read_back : receive (⟨0, 0, 7, .mark 300⟩ : Frame).onLine = .taken ⟨0, 0, 7, .mark 300⟩ := by decide +kernel
theorem test_seventh_equal_level_is_a_coding_error : receive (List.replicate 7 false) = .fault .coding := by decide

/-! ## Reset and start-up -/

theorem test_hardReset : (after (exec .hardReset member)).inReset = true ∧ (after (exec .hardReset member)).node = .config := by
  decide +kernel
theorem test_resetRelease :
    (after (exec (.resetRelease ⟨⟨true, false, true⟩, false⟩) (after (exec .hardReset member)))).node = .loading := by decide +kernel
theorem test_preload_joins_by_strap :
    let t := after (exec (.preloadEnd (levelsOf image) true)
      (after (exec (.resetRelease ⟨⟨true, false, true⟩, false⟩) (after (exec .hardReset member)))))
    t.node = .listening ∧ t.loader.loadStatus = .good ∧ t.own = 12 ∧ (t.cell 40).eff = .own ∧ t.loader.frozen = true
      ∧ t.loader.digest = 0x06A2#16 ∧ t.port = ⟨[]⟩ := by decide +kernel
theorem test_preload_sends_its_read_request :
    (after (exec (.resetRelease ⟨⟨true, false, false⟩, false⟩) (after (exec .hardReset member)))).loader.mdatSent = [0x2E, 0, 0] := by
  decide +kernel
theorem test_transactionAbort : exec .transactionAbort member = .next member := rfl
theorem test_psel_low_at_reset_holds_requests_back :
    let s := after (exec (.resetRelease ⟨⟨false, false, false⟩, true⟩) (after (exec .hardReset member)))
    (after (exec .join s)).port = ⟨[]⟩ ∧ (after (exec .join (after (exec .transactionAbort s)))).port = ⟨[5, 1]⟩ := by decide +kernel

/-! ## Requests -/

theorem test_unknown : (after (exec (.unknown 200) member)).port = ⟨[13]⟩ := by decide +kernel
theorem test_cancel_waiting_and_nothing :
    (after (exec (.cancel 40) (queued [change40] member))).port = ⟨[0]⟩ ∧ (after (exec (.cancel 40) member)).port = ⟨[10]⟩ := by
  decide +kernel
/-- The freed place goes to the lowest waiting slot, else to the lowest deferred cell (R110). -/
theorem test_cancel_gives_the_place :
    (after (exec (.cancel 40) (fetching .requesting 1 0 (crowded member)))).sendQueue.entries.map Entry.cell = [55]
      ∧ (after (exec (.cancel 40) (crowded member))).sendQueue.entries.map Entry.cell = [41]
      ∧ (after (exec (.cancel 40) (crowded member))).sendQueue.deferred = [(255, .join)] := by decide +kernel
theorem test_cfgcell : (after (exec (.cfgcell 9 0x5610100180#40) config)).cell 9
    = CellRecord.fresh 12 ⟨.own, 1, 2, true, .onChange, 1, 0, 3, 0⟩ := by decide +kernel
theorem test_cfgnode_moves_the_station :
    let t := after (exec (.cfgnode 0 7) config)
    t.own = 7 ∧ (t.entry 7).state = .self ∧ (t.entry 12).state = .absent ∧ (t.cell 40).owner = 7 := by decide +kernel
theorem test_cfgnode_out_of_range : (after (exec (.cfgnode 2 9) config)).port = ⟨[6]⟩ := by decide +kernel
theorem test_detach : (after (exec (.detach Ties.default) member)).port = ⟨[0, 4]⟩ := by decide +kernel
theorem test_fetch : (after (exec (.fetch 55) member)).port = ⟨[1, 0]⟩
    ∧ (after (exec (.fetch 55) member)).sendQueue.entries.map Entry.cell = [55] := by decide +kernel
theorem test_fetch_no_owner : (after (exec (.fetch 57) member)).port = ⟨[8]⟩ := by decide +kernel
theorem test_join : (after (exec .join config)).port = ⟨[0, 2]⟩ ∧ (after (exec .join State.reset)).port = ⟨[5, 1]⟩ := by decide +kernel
theorem test_notake : (after (exec .notake (post (note .lineStuck) member))).port = ⟨[0, 15, 0, 0, 0, 0, 0, 0, 0]⟩ := by decide +kernel
theorem test_rdcell : (after (exec (.rdcell 55) member)).port = ⟨[0, 2, 1, 200, 5, 1, 3, 0, 0, 8]⟩ := by decide +kernel
theorem test_rdcnt : (after (exec (.rdcnt 1) (member.setCounters (member.counters.set 0 513)))).port
    = ⟨0 :: 2 :: 1 :: List.replicate 24 0⟩ := by decide +kernel
theorem test_rdrost : (after (exec (.rdrost 5) member)).port = ⟨[0, 1, 13, 0, 0, 0, 1, 0]⟩
    ∧ (after (exec (.rdrost 12) member)).port = ⟨[0, 3, 0, 0, 0, 0, 1, 0]⟩ := by decide +kernel
theorem test_rdstat_in_loading : (after (exec .rdstat (inNode .loading State.reset))).port = ⟨List.replicate 15 0⟩ := by decide +kernel
theorem test_rejoin : (after (exec .rejoin (inNode .cutOff member))).port = ⟨[0, 2]⟩
    ∧ (after (exec .rejoin (inNode .cutOff (counts 240 0 member)))).port = ⟨[3, 5]⟩ := by decide +kernel
theorem test_restart : (after (exec .restart member)).port = ⟨[0, 1]⟩ ∧ (after (exec .restart member)).own = 12 := by decide +kernel

/-- Areas for the snapshot requests. -/
def areaOf (st : AreaState) : Area := ⟨st, 300, true, 1, [⟨55, .follow, 1, [8], 200, 5, .fresh, 3⟩]⟩
def areas (a b : AreaState) (newer : Option AreaId) : State := member.setSnapshots ⟨areaOf a, areaOf b, newer⟩

theorem test_snfree : (after (exec .snfree (areas .ready .reading (some .a)))).port = ⟨[0, 1]⟩ := by decide +kernel
theorem test_snopen : (after (exec .snopen (areas .ready .ready (some .b)))).port = ⟨[0, 1, 1, 44, 1, 0, 1]⟩ := by decide +kernel
theorem test_snread : (after (exec (.snread 55) (areas .ready .reading none))).port = ⟨[0, 2, 1, 200, 5, 1, 3, 8]⟩ := by decide +kernel
theorem test_wrcell : (after (exec (.wrcell 40 [1, 2]) member)).port = ⟨[0, 5]⟩
    ∧ (after (exec (.wrcell 40 [1, 2]) member)).sendQueue.entries.map Entry.reason = [.change] := by decide +kernel
/-- A CHANGE trigger merges into the entry and clears its cancel, stands behind a deferred place, or defers the cell at its place (R107, R108). -/
theorem test_wrcell_trigger_merges_or_defers :
    (after (exec (.wrcell 40 [1, 2]) (queued [{ change40 with reason := .join, cancelRequested := true }] member))).sendQueue.entries
        = [{ change40 with reason := .join }]
      ∧ (let full := (List.range 16).map fun i => (⟨.publication, BitVec.ofNat 8 i, .change, 0, i, false⟩ : Entry)
        let t := after (exec (.wrcell 40 [1, 2]) ((queued full member).setSendQueue ⟨full, [(39, .join), (41, .cyclic)], none, 16⟩))
        t.sendQueue.deferred = [(39, .join), (40, .change), (41, .cyclic)] ∧ t.sendQueue.entries = full) := by decide +kernel
theorem test_wrcell_same_value : (after (exec (.wrcell 40 [0, 0]) member)).port = ⟨[0, 4]⟩ := by decide +kernel

/-! ## Own frames -/

theorem test_frameStart : (after (exec .frameStart (queued [change40] member))).sendQueue.inFlight
    = some ⟨.entry 40, ⟨1, 40, 12, .publication 4 0 [0, 0]⟩⟩ := by decide +kernel
theorem test_outcomeLost : (after (exec (.outcomeLost (.reported 1)) (sending (.entry 40) (queued [change40] member)))).line.track
    = .receiving := by decide +kernel
theorem test_outcomeClash_vetoes : (after (exec (.outcomeClash (.reported 1) Ties.default)
    (sending (.entry 40) (queued [change40] member)))).line.vetoDue = some 4 := by decide +kernel
theorem test_clash_of_the_last_leaving_presence_begins_no_veto :
    let s := sending .presence (inNode .leaving (member.setMembership { member.membership with presence := ⟨true, true, 3, 0⟩ }))
    let t := after (exec (.outcomeClash (.reported 1) Ties.default) s)
    t.node = .detached ∧ t.line.vetoDue = none ∧ (after (step t)).counters.getD 4 0 = 0 := by decide +kernel
theorem test_veto_begins_at_its_first_symbol_and_ends_with_its_eighth :
    (let t := after (step (vetoing (some 1) .released member));
      t.line.driver = .veto 32 ∧ t.line.vetoDue = none ∧ t.counters.getD 4 0 = 1)
    ∧ (after (step (vetoing none (.veto 1) member))).line.driver = .released := by decide +kernel
theorem test_outcomeVetoed_keeps_the_dominant_run :
    (after (exec (.outcomeVetoed (.reported 3) Ties.default) (sending .presence member))).line.dominantRun = 3
      ∧ (LineView.seen [false, true, false, false]).dominantRun = 2 := by decide +kernel
theorem test_outcomeLone_counts_6 : (after (exec (.outcomeLone (.reported 0) Ties.default)
    (sending .presence member))).standingUnit.sendFaults = 6 := by decide +kernel
theorem test_outcomeVetoed_fails_with_36 :
    let s := sending (.entry 40) (queued [{ change40 with attempts := 3, reason := .join }] member)
    (after (exec (.outcomeVetoed (.reported 1) Ties.default) s)).notices.list.map Notice.detail = [35] := by decide +kernel
theorem test_outcomeSent_starts_the_gap : ((after (exec (.outcomeSent (.reported 0) Ties.default)
    (sending (.entry 40) (queued [change40] member)))).cell 40).gapCount = 3 := by decide +kernel
theorem test_outcomeSent_by_levels :
    let s := queued [change40] member
    let t := after (exec .frameStart s)
    (after (exec (.outcomeSent (.seen (s.image (.entry 40)).onLine) Ties.default) t)).sendQueue.entries = [] := by decide +kernel
theorem test_driverTimeout :
    (after (exec (.driverTimeout (overrun 0)) (sending .presence member))).node = .cutOff
      ∧ (after (exec (.driverTimeout (overrun 64)) (sending .presence member))).line.lineState = .stuck
      ∧ (after (exec (.driverTimeout (overrun 0)) (sending .presence member))).cycle.cycleTimer = 960 := by decide +kernel
/-- A frame that has reached its guard symbol is watched no longer (R20). -/
theorem test_driverTimeout_past_the_guard_does_nothing :
    let s := sending .presence member
    after (exec (.driverTimeout (overrun 0)) (elapsed (4 * s.line.guardPlace) none s)) = elapsed (4 * s.line.guardPlace) none s := by
  decide +kernel
/-- A transmit path that stops at the start symbol: the line sticks at the 64th symbol, and the frame is over-run at the 240th symbol time. -/
theorem test_time_brings_the_overrun :
    (let t := after (step (elapsed 251 (some 0) (sending .presence member)));
      t.line.lineState = .stuck ∧ t.line.track = .sending ∧ t.standingUnit.lineStuckSeen = true ∧ t.node = .member)
    ∧ (let t := after (step (elapsed 959 (some 0) (sending .presence member)));
      t.node = .cutOff ∧ t.standingUnit.sendFaults = 240 ∧ t.line.track = .none ∧ t.line.lineState = .stuck) := by decide +kernel

/-! ## Reception and the line -/

theorem test_frameTaken_publication : ((taken 1 55 5 (.publication 201 0 [9]) (tracking .receiving member)).cell 55).value = [9]
    ∧ ((taken 1 55 5 (.publication 72 0 [9]) (tracking .receiving member)).cell 55).value = [8] := by decide +kernel
/-- A publication in the last cycle before its sender's departure, by R58 and by R100 (log 13). -/
theorem test_departureStands :
    let s := (tracking .receiving member).setEntry 5 { peer with silence := 12 }
    let frame : FrameView := .reported ⟨1, 55, 5, .publication 201 0 [9]⟩
    ((after (exec (.frameTaken frame Ties.default) s)).entry 5).silence = 0
      ∧ ((after (exec (.frameTaken frame { Ties.default with departureStands := true }) s)).entry 5).silence = 12 := by decide +kernel
theorem test_frameTaken_mark : (taken 0 0 5 (.mark 301) (tracking .receiving member)).cycle.number = 301
    ∧ (taken 0 0 5 (.mark 301) (tracking .receiving member)).snapshots.areaA.count = 2 := by decide +kernel
theorem test_receiveFault : (after (exec (.receiveFault (.reported .check 0) Ties.default)
    (tracking .receiving member))).line.vetoDue = some 8 := by decide +kernel
theorem test_frameDiscarded : (after (exec (.frameDiscarded (.reported 1)) (tracking .receiving member))).line.track = .none := by
  decide +kernel
theorem test_quietInterval : (after (exec (.quietInterval Ties.default) (tracking .trailing member))).line.lineState = .idle := by
  decide +kernel
theorem test_lineStuck : (after (exec .lineStuck member)).notices.list.map Notice.kind = [.lineStuck] := by decide +kernel
theorem test_suspensionEnd : (after (exec .suspensionEnd
    (member.setLine { member.line with suspension := true, idleRun := 10 }))).line.suspension = false := by decide +kernel
theorem test_startSymbol : (after (exec .startSymbol member)).line.track = .receiving := by decide +kernel
/-- Dominant symbols outside frames go on from the run a frame ended with, and the 64th makes the line STUCK (R19). -/
theorem test_startSymbol_counts :
    (after (exec .startSymbol (dominant 7 (tracking .none member)))).line.dominantRun = 8
      ∧ (after (exec .startSymbol (dominant 7 (tracking .trailing member)))).line.dominantRun = 8
      ∧ (after (exec .startSymbol (dominant 62 (tracking .none member)))).line.lineState = .busy
      ∧ (let t := after (exec .startSymbol (dominant 63 (tracking .none member)));
        t.line.lineState = .stuck ∧ t.line.dominantRun = 64 ∧ t.notices.list.map Notice.detail = [1]) := by decide +kernel
/-- Two symbol times with no dominant symbol hold a recessive one, which sets the run to 0 (R19). -/
theorem test_a_symbol_time_without_a_dominant_symbol_ends_the_run :
    (after (step (elapsed 6 none (dominant 7 (tracking .none member))))).line.dominantRun = 7
      ∧ (after (step (elapsed 7 none (dominant 7 (tracking .none member))))).line.dominantRun = 0 := by decide +kernel

/-! ## The node's own events -/

/-- A SILENT node in CUT_OFF with quiet intervals counted. -/
def silent (quiet : Nat) : State :=
  let s := inNode .cutOff (counts 240 0 member)
  s.setStandingUnit { s.standingUnit with quiet := quiet }

/-- A member with a full observation window. -/
def window (observations faults : Nat) (high : Bool) : State :=
  member.setStandingUnit { member.standingUnit with observations := observations, faults := faults, highError := high }

/-- A listening node with tallies. -/
def listening (marks starts : Nat) : State :=
  member.setMembership { member.membership with node := .listening, markTally := marks, startTally := starts }

/-- A member that leads, with a mark entry. -/
def leading (m : MarkState) : State := member.setCycle { member.cycle with lead := true, mark := m }

theorem test_recovery : (after (exec (.recovery Ties.default) (silent 96))).notices.list.map Notice.kind = [.standing, .recovered] := by
  decide +kernel
theorem test_windowClose : (after (exec .windowClose (window 32 8 false))).standingUnit.highErrorSeen = true := by decide +kernel
theorem test_silenceDeparture : ((after (exec (.silenceDeparture 5 Ties.default) member)).cell 55).freshness = .lost
    ∧ ((after (exec (.silenceDeparture 5 Ties.default) member)).cell 42).eff = .own := by decide +kernel
theorem test_listenWindowEnd : (after (exec (.listenWindowEnd Ties.default) (listening 0 4))).notices.list.map Notice.kind
    = [.joined, .leadTaken] := by decide +kernel
theorem test_presenceFill : (after (exec .presenceFill
    (member.setMembership { member.membership with presenceCount := 4 }))).membership.presence.filled = true := by decide +kernel
theorem test_localCycleStart_triggers_the_cyclic_and_the_regained_cell :
    (after (exec (.localCycleStart Ties.default) member)).sendQueue.entries.map (fun e => (e.cell, e.reason))
      = [(42, .join), (41, .cyclic)] := by decide +kernel
theorem test_markFill : (after (exec .markFill (leading .empty))).cycle.markNumber = 1 := by decide +kernel
theorem test_lossOfSync : (after (exec (.lossOfSync Ties.default)
    (member.setCycle { member.cycle with synced := true }))).cycle.synced = false := by decide +kernel
theorem test_takeover : (after (exec .takeover (member.setCycle { member.cycle with takeover := some 0 }))).cycle.lead = true := by
  decide +kernel
theorem test_cellStale : ((after (exec (.cellStale 55) member)).cell 55).freshness = .stale := by decide +kernel
theorem test_cellLost : ((after (exec (.cellLost 56) member)).cell 56).freshness = .lost := by decide +kernel
theorem test_claimRegained : ((after (exec (.claimRegained 42 Ties.default) member)).cell 42).eff = .own := by decide +kernel
theorem test_gapEnd : (after (exec (.gapEnd 40)
    (member.setCell 40 { own40 with held := true }))).sendQueue.entries.map Entry.cell = [40] := by decide +kernel
theorem test_fetchTryEnd : (after (exec (.fetchTryEnd 1) (fetching .awaiting 3 0 member))).notices.list.map Notice.kind
    = [.fetchFailed] := by decide +kernel
theorem test_one_unit_of_time : (after (step member)).cycle.cycleTimer = 1 := by decide +kernel

/-! ## Witnesses: states and operands that meet the hypotheses of the statements, clause by clause -/

/-- The soundness premises as decidable propositions, unfolded for the kernel. -/
theorem witness_of_a_sound_member :
    Live member ∧ Ready member ∧ NoticesSound member ∧ QueueSound member ∧ CountersSound member ∧ ShapeSound member
      ∧ SnapshotsSound member ∧ DriverBounded member ∧ StandingSound member ∧ LeadSound member ∧ SlotsSound member ∧ ValuesFit member
      ∧ FrozenSound member ∧ member.loader.frozen = true ∧ member.onLine = true := by
  simp only [Asked, Live, Ready, NoticesSound, QueueSound, CountersSound, ShapeSound, SnapshotsSound, DriverBounded, StandingSound, LeadSound,
    SlotsSound, ValuesFit, FrozenSound]
  and_intros <;> first | decide +kernel | exact fun left h => absurd h (released_drives_no_veto rfl left)

theorem witness_of_a_sound_config : Live config ∧ Ready config ∧ ShapeSound config ∧ SlotsSound config ∧ ValuesFit config
    ∧ FrozenSound config ∧ SnapshotsSound config := by
  simp only [Asked, Live, Ready, ShapeSound, SlotsSound, ValuesFit, FrozenSound, SnapshotsSound]
  and_intros <;> decide +kernel

/-- A member one unit before every limit, and one whose queue is empty off the line. -/
def lateMember : State := member.setCycle { member.cycle with
  cycleTimer := 19998
  markTimer := 59998
  takeover := some 32286
  synced := true }

theorem witness_EmptyQueueLetsTimePass :
    (Live config ∧ config.pending = [] ∧ config.onLine = false)
    ∧ (Live lateMember ∧ lateMember.pending = [] ∧ lateMember.onLine = true
      ∧ (lateMember.cycle.synced = true → lateMember.cycle.markTimer + 1 < 3 * lateMember.loader.params.periodUnits)
      ∧ ((lateMember.cycle.synced = false ∨ lateMember.cycle.lead = true) →
          lateMember.cycle.cycleTimer + 1 < lateMember.loader.params.periodUnits)
      ∧ (∀ n ∈ lateMember.cycle.takeover, n + 1 < lateMember.loader.params.takeoverUnits))
    ∧ (let s := elapsed 958 none (sending .presence member);
      Live s ∧ s.pending = [] ∧ s.onLine = true ∧ s.line.track = .sending ∧ s.line.stall = none ∧ s.line.elapsed + 1 < 240 * 2 ^ 2
        ∧ s.loader.params.rateCode = 2 ∧ s.line.guardPlace * 4 ≤ 958 + 1)
    ∧ (member.line.vetoDue = none ∧ ∀ left, member.line.driver ≠ .veto left)
    ∧ (let s := vetoing none (.veto 32) member; s.line.vetoDue = none ∧ s.line.driver = .veto 32)
    ∧ (let s := vetoing (some 4) .released member; s.line.vetoDue = some 4 ∧ 3 < 4 ∧ 4 ≤ 4 ∧ s.mayVeto = true)
    ∧ (let s := vetoing (some 4) .released (counts 120 0 member);
      s.line.vetoDue = some 4 ∧ s.mayVeto = false ∧ ∀ left, s.line.driver ≠ .veto left) := by
  simp only [Live]
  and_intros <;> first | decide +kernel | exact released_drives_no_veto rfl

/-- Every command answers a next state: the hypothesis that it does is met by every command and state. -/
theorem witness_of_an_answer (c : Instr) (s : State) : exec c s = .next (after (exec c s)) := by
  cases c <;> first | rfl | (simp only [exec, execUnknown]; split <;> rfl)

theorem witness_EveryCommandAnswersAndKeepsTheQueue :
    requestBytes .frameStart = none ∧ Instr.frameStart ≠ .hardReset ∧ (∀ levels, Instr.frameStart ≠ .resetRelease levels)
      ∧ Instr.frameStart ≠ .transactionAbort ∧ ∀ levels rest, Instr.frameStart ≠ .preloadEnd levels rest := by simp [requestBytes]

/-- A node held in reset. -/
def held : State := { State.reset with inReset := true }

theorem witness_HardResetGivesResetValues :
    held.inReset = true ∧ Instr.join ≠ .hardReset ∧ ∀ levels, Instr.join ≠ .resetRelease levels := by simp [held]

theorem witness_ResetReleaseSamplesTheStraps : held.inReset = true := rfl

/-- A node whose preload runs, with STJOIN. -/
def preloading : State := after (exec (.resetRelease ⟨⟨true, false, true⟩, false⟩) held)

theorem witness_PreloadEndsAtOneOfThreeOutcomes :
    (Live preloading ∧ preloading.node = .loading)
    ∧ preload [] true preloading.loader.params = .noMemory
    ∧ preload (levelsOf (image.set 26 1 |>.set 27 1)) true preloading.loader.params = .badCheck
    ∧ preload (levelsOf (image.set 2 13)) true preloading.loader.params = .badCheck
    ∧ (∃ p ∈ memParams (levelsOf image) true preloading.loader.params, ∃ rs ∈ recordsOf [memRecord (levelsOf image) true 0],
        preload (levelsOf image) true preloading.loader.params = .good p rs)
    ∧ (memByte (levelsOf image) true 0 = 0xA5#8 ∧ memByte (levelsOf image) true 1 = 0x3C#8 ∧ memByte (levelsOf [0xA5]) true 1 ≠ 0x3C#8)
    ∧ (let badValue := imageWith (·.set 6 0)
      let twice := imageWith fun l => (l.set 27 2) ++ l.drop 28
      memCheckGood badValue true = true ∧ preload badValue true preloading.loader.params = .badCheck
        ∧ memCheckGood twice true = true ∧ preload twice true preloading.loader.params = .badCheck)
    ∧ (let edge := (image.set 26 1).set 27 0; memCount (levelsOf edge) true = 256 ∧ memByte (levelsOf (edge.set 3 5)) true 3 = 5#8)
    ∧ (256 < memCount (levelsOf (image.set 26 1 |>.set 27 1)) true ∧ memCheckGood (levelsOf (image.set 2 13)) true = false)
    ∧ 35 < image.length := by
  simp only [Live]
  and_intros <;> decide +kernel

/-- A member whose PSEL has been low since before RESET rose. -/
def pressed : State := member.setPselHeld true

theorem witness_ShortTransactionsHaveNoEffect :
    held.inReset = true ∧ (member.pselHeld = false ∧ member.inReset = false)
    ∧ (Live pressed ∧ pressed.pselHeld = true ∧ requestBytes .join ≠ none)
    ∧ (16#8).toNat ≤ 16 ∧ (List.replicate 15 (0 : Byte)).length < (16#8).toNat ∧ (List.replicate 4 (0 : Byte)).length < 5 := by
  and_intros <;> decide +kernel

theorem witness_UnknownAndBusyAnswers :
    (Ready member ∧ namesRequest 0 = false ∧ namesRequest 255 = false)
    ∧ (Asked preloading ∧ preloading.node = .loading ∧ Instr.join.wellFormed = true ∧ requestBytes .join ≠ none ∧ Instr.join ≠ .rdstat) := by
  simp only [Asked, Live, Ready]
  and_intros <;> decide +kernel

theorem witness_CancelDecidesByTheQueue :
    (let s := sending (.entry 40) (queued [change40] member);
      Ready s ∧ SlotsSound s ∧ s.sendQueue.has 40 = true ∧ s.sendQueue.flies 40 = true)
    ∧ (let s := fetching .requesting 1 0 (queued [fetch55] member);
      Ready s ∧ SlotsSound s ∧ s.sendQueue.has 55 = true ∧ s.sendQueue.flies 55 = false ∧ s.sendQueue.defers 55 = false
        ∧ s.slotHolding 55 = some 1 ∧ (s.slot 1).state = .requesting)
    ∧ (let s := queued [change40] member;
      Ready s ∧ SlotsSound s ∧ s.sendQueue.has 40 = true ∧ s.sendQueue.flies 40 = false ∧ s.sendQueue.defers 40 = false
        ∧ s.slotHolding 40 = none ∧ QueueSound s ∧ s.node = .member)
    ∧ (let s := fetching .requesting 1 0 (crowded member);
      Ready s ∧ SlotsSound s ∧ QueueSound s ∧ s.node = .member ∧ s.sendQueue.has 40 = true ∧ s.sendQueue.flies 40 = false
        ∧ s.sendQueue.defers 40 = false)
    ∧ (let s := crowded member;
      Ready s ∧ SlotsSound s ∧ QueueSound s ∧ s.node = .member ∧ s.sendQueue.has 40 = true ∧ s.sendQueue.flies 40 = false
        ∧ s.sendQueue.defers 40 = false)
    ∧ (let s := inNode .leaving (queued [change40] member);
      Ready s ∧ SlotsSound s ∧ s.node ≠ .member ∧ s.sendQueue.has 40 = true ∧ s.sendQueue.flies 40 = false ∧ s.sendQueue.defers 40 = false)
    ∧ (let s := member.setSendQueue { member.sendQueue with deferred := [(255, .join)] };
      Ready s ∧ SlotsSound s ∧ s.sendQueue.has 255 = false ∧ s.sendQueue.defers 255 = true)
    ∧ (let s := fetching .requesting 1 0 member;
      Ready s ∧ SlotsSound s ∧ s.sendQueue.has 55 = false ∧ s.sendQueue.defers 55 = false ∧ s.slotHolding 55 = some 1
        ∧ (s.slot 1).state = .requesting)
    ∧ (let s := fetching .awaiting 1 0 member;
      Ready s ∧ SlotsSound s ∧ s.sendQueue.has 55 = false ∧ s.sendQueue.defers 55 = false ∧ s.slotHolding 55 = some 1
        ∧ (s.slot 1).state = .awaiting) := by
  simp only [Asked, Live, Ready, SlotsSound, QueueSound]
  and_intros <;> decide +kernel

/-- A node under STLOCK. -/
def locked : State := { config with loader := { config.loader with straps := ⟨false, true, false⟩ } }

theorem witness_CfgnodeSetsOneParameter :
    (Ready locked ∧ ShapeSound locked ∧ locked.loader.straps.stlock = true)
    ∧ (Ready member ∧ ShapeSound member ∧ member.loader.straps.stlock = false ∧ member.node ≠ .config)
    ∧ (Ready config ∧ ShapeSound config ∧ config.loader.straps.stlock = false ∧ config.node = .config)
    ∧ config.loader.params.set 20 0 = none ∧ config.loader.params.set 0 32 = none
    ∧ config.loader.params.set 0 31 = some { config.loader.params with station := 31 }
    ∧ config.loader.params.set 0 0 = some { config.loader.params with station := 0 }
    ∧ config.loader.params.set 14 0x7FFFFFFFF = some { config.loader.params with signalMask := BitVec.allOnes 35 } := by
  simp only [Asked, Live, Ready, ShapeSound]
  and_intros <;> decide +kernel

theorem witness_CfgcellReplacesTheRecord :
    (Ready locked ∧ ShapeSound locked ∧ locked.loader.straps.stlock = true)
    ∧ (Ready member ∧ ShapeSound member ∧ member.loader.straps.stlock = false ∧ member.node ≠ .config)
    ∧ (Ready config ∧ ShapeSound config ∧ config.loader.straps.stlock = false ∧ config.node = .config)
    ∧ cellConfigOf 0 = none ∧ (cellConfigOf 0x5610100180#40).isSome = true := by
  simp only [Asked, Live, Ready, ShapeSound]
  and_intros <;> decide +kernel

theorem witness_ConfigurationRanges :
    (∀ row ∈ [(0, 0), (0, 31), (1, 4), (2, 10), (2, 65535), (3, 1), (3, 16), (4, 1), (5, 64), (5, 1024), (6, 2), (6, 16), (7, 7), (8, 1),
        (9, 1), (9, 16), (10, 1), (10, 3), (11, 1), (12, 1), (13, 2 ^ 34 - 1), (14, 2 ^ 35 - 1), (15, 1), (16, 65535), (17, 65535),
        (18, 65535), (19, 65535)], (Params.default.set row.1 (BitVec.ofNat 40 row.2)).isSome = true)
    ∧ (∀ row ∈ [(0, 32), (1, 5), (2, 9), (2, 65536), (3, 0), (3, 17), (5, 63), (6, 1), (9, 0), (10, 4), (13, 2 ^ 34), (19, 65536), (20, 0)],
        Params.default.set row.1 (BitVec.ofNat 40 row.2) = none)
    ∧ cellConfigOf (recordOf 0 1 0 0 0 0 1 0 0 0) = some CellConfig.default
    ∧ cellConfigOf (recordOf 2 3 2 1 0 16 64 63 64 64) = some ⟨.follow, 3, 16, true, .onRequest, 64, 63, 64, 64⟩
    ∧ ([recordOf 3 1 0 0 0 0 1 0 0 0, recordOf 1 0 0 0 0 0 1 0 0 0, recordOf 1 1 3 0 0 0 1 0 0 0, recordOf 1 1 0 0 1 0 1 0 0 0,
        recordOf 1 1 0 0 0 17 1 0 0 0, recordOf 1 1 0 0 0 0 0 0 0 0, recordOf 1 1 0 0 0 0 65 0 0 0, recordOf 1 1 0 0 0 0 1 1 0 0,
        recordOf 1 1 0 0 0 0 1 0 65 0, recordOf 1 1 0 0 0 0 1 0 0 65].map cellConfigOf = List.replicate 10 none) := by
  and_intros <;> decide +kernel

theorem witness_JoinRequest :
    (Asked preloading ∧ preloading.node = .loading)
    ∧ (Asked config ∧ config.node = .config ∧ config.own ≠ 0 ∧ FrozenSound config)
    ∧ (let s := inNode .detached member; Asked s ∧ s.node = .detached ∧ s.own ≠ 0 ∧ s.loader.frozen = true)
    ∧ (Asked State.reset ∧ State.reset.node = .config ∧ State.reset.own = 0)
    ∧ (Asked member ∧ member.node ≠ .loading ∧ member.node ≠ .config ∧ member.node ≠ .detached)
    ∧ (after (exec (.preloadEnd [] true) member)).port = member.port := by
  simp only [Asked, Live, FrozenSound]
  and_intros <;> decide +kernel

theorem witness_JoinStartsListening :
    (Ready config ∧ config.node = .config ∧ config.own ≠ 0)
    ∧ (Ready (inNode .detached member) ∧ (inNode .detached member).node = .detached ∧ (inNode .detached member).own ≠ 0) := by
  simp only [Asked, Live, Ready]
  and_intros <;> decide +kernel

theorem witness_RejoinRequest :
    (Asked preloading ∧ preloading.node = .loading)
    ∧ (let s := inNode .cutOff (counts 239 0 member); Asked s ∧ s.node = .cutOff ∧ s.standingUnit.standing ≠ .silent)
    ∧ (Asked (silent 95) ∧ (silent 95).node = .cutOff ∧ (silent 95).standingUnit.standing = .silent)
    ∧ (Asked member ∧ member.node ≠ .loading ∧ member.node ≠ .cutOff) := by
  simp only [Asked, Live]
  and_intros <;> decide +kernel

theorem witness_DetachLeavesTheLine :
    (Asked preloading ∧ preloading.node = .loading)
    ∧ (Ready member ∧ ShapeSound member ∧ member.node = .member ∧ member.inFlightIs .presence = false)
    ∧ (let s := sending .presence member; Ready s ∧ ShapeSound s ∧ s.node = .member ∧ s.inFlightIs .presence = true)
    ∧ (Ready (listening 1 3) ∧ ShapeSound (listening 1 3) ∧ (listening 1 3).node = .listening)
    ∧ (Ready config ∧ ShapeSound config ∧ config.node ≠ .member ∧ config.node ≠ .listening) := by
  simp only [Asked, Live, Ready, ShapeSound]
  and_intros <;> decide +kernel

theorem witness_RestartReturnsToConfig : Ready member ∧ Ready (inNode .halted member) := by
  simp only [Asked, Live, Ready]
  and_intros <;> decide +kernel

/-- A member whose four slots are in use by other cells, and one whose queue is full. -/
def fullSlots : State := member.setSlots [⟨.awaiting, 1, 1, 1⟩, ⟨.awaiting, 2, 1, 1⟩, ⟨.awaiting, 3, 1, 1⟩, ⟨.awaiting, 4, 1, 1⟩]
def fullQueue : State := queued ((List.range 16).map fun i => ⟨.publication, BitVec.ofNat 8 i, .change, 0, i, false⟩) member

theorem witness_FetchChecksInOrder :
    (Ready config ∧ config.node ≠ .member)
    ∧ (Ready member ∧ member.node = .member ∧ (member.cell 40).eff ≠ .follow)
    ∧ ((member.cell 57).eff = .follow ∧ (member.cell 57).owner = 0)
    ∧ (let s := member.setEntry 5 { peer with state := .foreign };
      Ready s ∧ s.node = .member ∧ (s.cell 55).eff = .follow ∧ (s.entry (s.cell 55).owner).state ≠ .present)
    ∧ ((member.cell 55).eff = .follow ∧ (member.cell 55).owner ≠ 0 ∧ (member.entry (member.cell 55).owner).state = .present)
    ∧ (let s := fetching .awaiting 1 1 member; Ready s ∧ s.node = .member ∧ s.slotHolding 55 = some 1)
    ∧ (Ready fullSlots ∧ fullSlots.slotHolding 55 = none ∧ ∀ f ∈ fullSlots.slots, f.state ≠ .free)
    ∧ (member.slotHolding 55 = none ∧ 0 < member.slots.length ∧ (member.slot 0).state = .free)
    ∧ (let s := fullSlots.setSlots (fullSlots.slots.set 3 ⟨.free, 0, 0, 0⟩);
        s.slotHolding 55 = none ∧ 3 < s.slots.length ∧ (s.slot 3).state = .free ∧ (∀ j < 3, (s.slot j).state ≠ .free))
    ∧ (member.sendQueue.has 55 = false ∧ member.sendQueue.entries.length < 16)
    ∧ (Ready fullQueue ∧ fullQueue.sendQueue.has 55 = false ∧ 16 ≤ fullQueue.sendQueue.entries.length)
    ∧ (queued [fetch55] member).sendQueue.has 55 = true := by
  simp only [Asked, Live, Ready]
  and_intros <;> decide +kernel

theorem witness_NotakeTakesTheOldest :
    (Asked preloading ∧ preloading.node = .loading) ∧ (Ready member ∧ member.notices.list = [])
    ∧ (let s := post (note .lineStuck) member; Ready s ∧ s.notices.list = note .lineStuck :: []) := by
  simp only [Asked, Live, Ready]
  and_intros <;> decide +kernel

theorem witness_RdcntReadsAndClears :
    (Asked preloading ∧ preloading.node = .loading) ∧ (Ready member ∧ CountersSound member) ∧ (2 : Byte) ≠ 0 ∧ (2 : Byte) ≠ 1 := by
  simp only [Asked, Live, Ready, CountersSound]
  and_intros <;> decide +kernel

theorem witness_RdstatReadsAndClearsTheStickyFlags : Asked member ∧ Asked preloading := by
  simp only [Asked, Live]
  and_intros <;> decide +kernel

theorem witness_CellAndRosterReads :
    Ready member ∧ (31 : Nat) < (32 : Byte).toNat ∧ ((12 : Station) ≠ 0 ∧ (member.entry 12).state = .self)
    ∧ ((31 : Station) ≠ 0 ∧ (member.entry 31).state ≠ .self) ∧ ((1 : Station) ≠ 0 ∧ (member.entry 1).state ≠ .self) := by
  simp only [Asked, Live, Ready]
  and_intros <;> decide +kernel

theorem witness_WrcellDecidesInOrder :
    Ready member ∧ (16 < (List.replicate 17 (0 : Byte)).length ∧ (List.replicate 16 (0 : Byte)).length ≤ 16)
    ∧ (Ready (inNode .halted member) ∧ (inNode .halted member).node = .halted)
    ∧ (member.node ≠ .halted ∧ (member.cell 55).eff ≠ .own)
    ∧ ((member.cell 40).eff = .own ∧ (List.replicate 16 (0 : Byte)).length ≠ (member.cell 40).cfg.length)
    ∧ ([0, 0].length = (member.cell 40).cfg.length ∧ [0, 0] = (member.cell 40).value) := by
  simp only [Asked, Live, Ready]
  and_intros <;> decide +kernel

theorem witness_ChangingWriteRaisesTheVersion :
    (Ready member ∧ ShapeSound member ∧ [1, 2].length ≤ 16 ∧ member.node ≠ .halted ∧ (member.cell 40).eff = .own
      ∧ [1, 2].length = (member.cell 40).cfg.length ∧ [1, 2] ≠ (member.cell 40).value)
    ∧ (member.node = .member ∧ (member.cell 40).cfg.policy = .onChange ∧ (member.cell 40).gapCount = 0)
    ∧ (let s := member.setCell 40 { own40 with gapCount := 1 };
      Ready s ∧ ShapeSound s ∧ (s.cell 40).eff = .own ∧ [1, 2] ≠ (s.cell 40).value ∧ (s.cell 40).gapCount ≠ 0)
    ∧ (member.sendQueue.has 40 = false ∧ member.sendQueue.defers 40 = false ∧ member.sendQueue.entries.length < 16)
    ∧ (Ready (crowded member) ∧ (crowded member).sendQueue.has 40 = true)
    ∧ (let s := member.setSendQueue { member.sendQueue with deferred := [(40, .join)] };
      Ready s ∧ s.sendQueue.has 40 = false ∧ s.sendQueue.defers 40 = true)
    ∧ (∀ d ∈ [[], [((39 : CellNo), Reason.join), (41, .cyclic)]],
        let s := fullQueue.setSendQueue { fullQueue.sendQueue with deferred := d }
        Ready s ∧ ShapeSound s ∧ s.node = .member ∧ s.sendQueue.has 40 = false ∧ s.sendQueue.defers 40 = false
          ∧ 16 ≤ s.sendQueue.entries.length ∧ (s.sendQueue.deferred.map Prod.fst).Pairwise (· < ·)) := by
  simp only [Asked, Live, Ready, ShapeSound]
  and_intros <;> decide +kernel

theorem witness_SnfreeGivesBackTheArea :
    (Asked preloading ∧ preloading.node = .loading)
    ∧ (Ready (areas .reading .ready none) ∧ (areas .reading .ready none).snapshots.areaA.state = .reading)
    ∧ (Ready (areas .ready .reading none) ∧ (areas .ready .reading none).snapshots.areaA.state ≠ .reading
      ∧ (areas .ready .reading none).snapshots.areaB.state = .reading)
    ∧ (Ready member ∧ member.snapshots.areaA.state ≠ .reading ∧ member.snapshots.areaB.state ≠ .reading)
    ∧ (let s := areas .reading .ready none;
      SnapshotsSound s ∧ requestBytes .snopen ≠ none ∧ Instr.snopen ≠ .snfree ∧ Instr.snopen ≠ .restart
        ∧ (after (exec .snopen s)).port = ⟨[3]⟩) := by
  simp only [Asked, Live, Ready, SnapshotsSound]
  and_intros <;> decide +kernel

theorem witness_SnopenOpensTheNewest :
    (Asked preloading ∧ preloading.node = .loading)
    ∧ (Ready (areas .reading .ready none) ∧ SnapshotsSound (areas .reading .ready none)
      ∧ (areas .reading .ready none).snapshots.areaA.state = .reading)
    ∧ (Ready member ∧ SnapshotsSound member ∧ member.snapshots.areaA.state = .empty ∧ member.snapshots.areaB.state = .empty)
    ∧ (let s := areas .ready .empty (some .a);
      Ready s ∧ SnapshotsSound s ∧ s.snapshots.areaA.state = .ready ∧ s.snapshots.areaB.state = .empty)
    ∧ (let s := areas .ready .ready (some .a);
      Ready s ∧ SnapshotsSound s ∧ s.snapshots.areaA.state = .ready ∧ s.snapshots.areaB.state = .ready ∧ s.snapshots.newer ≠ some .b)
    ∧ (let s := areas .empty .ready (some .b);
      Ready s ∧ SnapshotsSound s ∧ s.snapshots.areaB.state = .ready ∧ s.snapshots.areaA.state = .empty)
    ∧ (let s := areas .ready .ready (some .b);
      Ready s ∧ SnapshotsSound s ∧ s.snapshots.areaB.state = .ready ∧ s.snapshots.areaA.state = .ready ∧ s.snapshots.newer = some .b) := by
  simp only [Asked, Live, Ready, SnapshotsSound]
  and_intros <;> decide +kernel

theorem witness_SnreadReturnsTheCopy :
    (Asked preloading ∧ preloading.node = .loading)
    ∧ (Ready member ∧ ValuesFit member ∧ member.snapshots.areaA.state ≠ .reading ∧ member.snapshots.areaB.state ≠ .reading)
    ∧ (let s := areas .reading .ready none;
      Ready s ∧ ValuesFit s ∧ s.snapshots.areaA.state = .reading ∧ (∀ x ∈ s.snapshots.areaA.copies, x.cell ≠ 54))
    ∧ (let s := areas .ready .reading none;
      Ready s ∧ ValuesFit s ∧ s.snapshots.areaA.state ≠ .reading ∧ s.snapshots.areaB.state = .reading
        ∧ (s.snapshots.areaB.copies.find? (·.cell == 55)).isSome = true) := by
  simp only [Asked, Live, Ready, ValuesFit]
  and_intros <;> decide +kernel

theorem witness_FrameStartSendsTheOffer :
    (let s := queued [change40] member;
      Live s ∧ s.line.lineState = .idle ∧ s.line.track = .none ∧ s.sendQueue.inFlight = none ∧ s.node = .member
        ∧ s.standingUnit.standing = .active ∧ s.offer = some (.entry 40))
    ∧ (let s := queued [change40] (counts 120 0 member);
      Live s ∧ s.line.lineState = .idle ∧ s.standingUnit.standing = .guarded ∧ s.line.suspension = false ∧ s.offer = some (.entry 40))
    ∧ (Live (tracking .none member) ∧ (tracking .none member).line.lineState ≠ .idle)
    ∧ (let s := counts 120 0 (member.setLine { member.line with suspension := true });
      Live s ∧ s.standingUnit.standing = .guarded ∧ s.line.suspension = true)
    ∧ (Live member ∧ member.offer = none) ∧ (Live (silent 0) ∧ (silent 0).standingUnit.standing = .silent)
    ∧ (Live (sending .presence member) ∧ (sending .presence member).line.track ≠ .none
      ∧ (sending .presence member).sendQueue.inFlight ≠ none)
    ∧ (Live config ∧ config.node ≠ .member ∧ config.node ≠ .leaving) := by
  simp only [Live]
  and_intros <;> decide +kernel

theorem witness_OfferFollowsTheSendOrder :
    (member.node = .member ∧ (leading .waiting).cycle.mark = .waiting ∧ (leading .waiting).node = .member)
    ∧ (let s := queued [change40, fetch55] (member.setMembership { member.membership with presence := ⟨true, false, 0, 7⟩ });
      s.node = .member ∧ s.cycle.mark ≠ .waiting
        ∧ s.candidates = [⟨.presence, 3, 0, 7⟩, ⟨.entry 40, 1, 40, 0⟩, ⟨.entry 55, 2, 55, 1⟩] ∧ s.offer = some (.entry 40))
    ∧ (sending (.entry 40) (queued [change40, fetch55] member)).candidates = [⟨.entry 55, 2, 55, 1⟩]
    ∧ (let s := inNode .leaving (member.setMembership { member.membership with presence := ⟨true, true, 0, 0⟩ });
      s.node = .leaving ∧ s.offer = some .presence)
    ∧ (config.node ≠ .member ∧ config.node ≠ .leaving)
    ∧ choose .key [⟨.entry 1, 1, 1, 0⟩, ⟨.entry 0, 1, 0, 1⟩] = some ⟨.entry 0, 1, 0, 1⟩
    ∧ choose .key [⟨.entry 0, 3, 0, 0⟩, ⟨.presence, 3, 0, 1⟩] = some ⟨.presence, 3, 0, 1⟩
    ∧ choose .key [⟨.presence, 3, 0, 1⟩, ⟨.entry 0, 3, 0, 0⟩] = some ⟨.presence, 3, 0, 1⟩
    ∧ choose .arrival [⟨.entry 1, 1, 1, 0⟩, ⟨.entry 0, 1, 0, 1⟩] = some ⟨.entry 1, 1, 1, 0⟩
    ∧ (let s := queued [change40, fetch55] member;
      change40 ∈ s.sendQueue.entries ∧ fetch55 ∈ s.sendQueue.entries ∧ QueueSound s ∧ change40.kind = .publication
        ∧ fetch55.kind = .fetch) := by
  simp only [QueueSound]
  and_intros <;> decide +kernel

/-- A member that sends its entry of cell 40, with fault counts. -/
def sends (send recv : Nat) : State := counts send recv (sending (.entry 40) (queued [change40] member))

/-- Every outcome can come to the frame that the state sends. -/
def awaitsAll (s : State) : Prop :=
  s.awaits (.reported 0) .sent = true ∧ s.awaits (.reported 0) .lone = true ∧ s.awaits (.reported 7) .lost = true
    ∧ s.awaits (.reported 1) .vetoed = true ∧ s.awaits (.reported 1) .clash = true

/-- A member, or a node that leaves, whose own mark of number 6 is on the line. -/
def marking (n : NodeState) (lead : Bool) : State :=
  sending .mark (inNode n (member.setCycle { member.cycle with number := 5, lead := lead, mark := .inFlight, markNumber := 6 }))

/-- A member whose presence is on the line, with attempts. -/
def presenting (attempts : Nat) : State :=
  sending .presence (member.setMembership { member.membership with presence := ⟨true, false, attempts, 0⟩ })

theorem witness_OutcomesAreCounted :
    (∀ n ∈ [0, 113, 114, 119, 233, 234, 239], Live (sends n 0) ∧ StandingSound (sends n 0)
      ∧ (sends n 0).standingUnit.standing ≠ .silent ∧ CountersSound (sends n 0) ∧ SnapshotsSound (sends n 0) ∧ awaitsAll (sends n 0))
    ∧ (Live (sends 113 119) ∧ (sends 113 119).standingUnit.sendFaults + 6 < 120 ∧ (sends 113 119).standingUnit.recvFaults < 120)
    ∧ 120 ≤ (sends 114 0).standingUnit.sendFaults + 6 ∧ 120 ≤ (sends 0 120).standingUnit.recvFaults
    ∧ (240 ≤ (sends 234 0).standingUnit.sendFaults + 6 ∧ ShapeSound (sends 234 0))
    ∧ (∀ lead ∈ [true, false], Live (marking .member lead) ∧ StandingSound (marking .member lead) ∧ CountersSound (marking .member lead)
      ∧ SnapshotsSound (marking .member lead) ∧ (marking .member lead).sendQueue.inFlight = some ⟨.mark, ⟨0, 0, 12, .mark 6⟩⟩
      ∧ awaitsAll (marking .member lead) ∧ (marking .member lead).node = .member ∧ (marking .member lead).standingUnit.sendFaults + 6 < 240)
    ∧ (Live (marking .leaving false) ∧ (marking .leaving false).node = .leaving ∧ awaitsAll (marking .leaving false)
      ∧ (marking .leaving false).sendQueue.inFlight = some ⟨.mark, ⟨0, 0, 12, .mark 6⟩⟩)
    ∧ (∀ n ∈ [2, 3], Live (presenting n) ∧ StandingSound (presenting n) ∧ CountersSound (presenting n) ∧ SnapshotsSound (presenting n)
      ∧ (presenting n).node = .member ∧ (presenting n).sendQueue.inFlight = some ⟨.presence, (presenting n).image .presence⟩
      ∧ awaitsAll (presenting n) ∧ (presenting n).standingUnit.sendFaults + 6 < 240)
    ∧ 2 + 1 < (presenting 2).loader.params.retryLimit + 1 ∧ ¬ 3 + 1 < (presenting 3).loader.params.retryLimit + 1 := by
  simp only [Live, ShapeSound, StandingSound, CountersSound, SnapshotsSound, awaitsAll]
  and_intros <;> decide +kernel

/-- A member that sends the entry of cell 40, or from slot 1 that of cell 55, with attempts and cancel-requested. -/
def tries40 (attempts : Nat) (cancel : Bool) : State :=
  sending (.entry 40) (queued [{ change40 with attempts := attempts, cancelRequested := cancel }] member)
def tries55 (attempts : Nat) (cancel : Bool) : State :=
  fetching .requesting 1 0 (sending (.entry 55) (queued [{ fetch55 with attempts := attempts, cancelRequested := cancel }] member))

/-- A node that leaves and sends the entry of cell 55, its slot freed. -/
def leaving55 (attempts : Nat) (cancel : Bool) : State :=
  inNode .leaving (sending (.entry 55) (queued [{ fetch55 with attempts := attempts, cancelRequested := cancel }] member))

/-- Cell 40 changed while its publication of version 4 was in flight, with a gap. -/
def changed40 (gap : Nat) : State :=
  (tries40 0 false).setCell 40 { own40 with cfg := { own40.cfg with gap := gap }, version := 5, changed := true }

/-- The premises of the statement but those on the frame, and what its clauses ask of the queue of notices, for a member that sends. -/
def trying (s : State) : Prop :=
  Live s ∧ ShapeSound s ∧ StandingSound s ∧ SlotsSound s ∧ QueueSound s ∧ s.node = .member ∧ awaitsAll s
    ∧ s.notices.list.length ≤ 29 ∧ s.loader.params.recordMask.getLsbD NoticeKind.sendFailed.code = true
    ∧ s.loader.params.recordMask.getLsbD NoticeKind.sendCancelled.code = true

theorem witness_EntriesAreRetriedOrLeave :
    (trying (tries40 3 true) ∧ trying (tries40 2 false) ∧ trying (tries40 3 false) ∧ trying (sends 233 0) ∧ trying (sends 239 0))
    ∧ ((tries40 3 true).standingUnit.sendFaults + 6 < 240 ∧ (sends 233 0).standingUnit.sendFaults + 6 < 240
      ∧ ¬(sends 239 0).standingUnit.sendFaults + 6 < 240)
    ∧ (trying (tries55 3 true) ∧ trying (tries55 2 false) ∧ trying (tries55 3 false))
    ∧ (∀ n ∈ [2, 3], ∀ cancel ∈ [true, false],
        (tries40 n cancel).sendQueue.inFlight = some ⟨.entry 40, ⟨1, 40, 12, .publication 4 0 [0, 0]⟩⟩
          ∧ (tries40 n cancel).sendQueue.entries.find? (·.cell == 40) = some { change40 with attempts := n, cancelRequested := cancel }
          ∧ (tries40 n cancel).sendQueue.defers 40 = false ∧ (tries40 n cancel).slotHolding 40 = none)
    ∧ (∀ n ∈ [2, 3], ∀ cancel ∈ [true, false],
        (tries55 n cancel).sendQueue.inFlight = some ⟨.entry 55, ⟨2, 55, 12, .fetch⟩⟩
          ∧ (tries55 n cancel).sendQueue.entries.find? (·.cell == 55) = some { fetch55 with attempts := n, cancelRequested := cancel }
          ∧ (tries55 n cancel).sendQueue.defers 55 = false ∧ (tries55 n cancel).slotHolding 55 = some 1
          ∧ ((tries55 n cancel).slot 1).state = .requesting)
    ∧ (let s := inNode .leaving (sends 239 0); Live s ∧ StandingSound s ∧ SlotsSound s ∧ s.node = .leaving ∧ awaitsAll s)
    ∧ (∀ s ∈ [inNode .leaving (tries40 3 true), inNode .leaving (tries40 2 false), leaving55 3 true, leaving55 2 false],
        Live s ∧ StandingSound s ∧ SlotsSound s ∧ s.node = .leaving ∧ s.standingUnit.sendFaults + 6 < 240 ∧ awaitsAll s
          ∧ s.notices.list.length ≤ 29 ∧ s.loader.params.recordMask.getLsbD NoticeKind.sendCancelled.code = true)
    ∧ (∀ cancel ∈ [true, false],
        (inNode .leaving (tries40 3 cancel)).sendQueue.inFlight = some ⟨.entry 40, ⟨1, 40, 12, .publication 4 0 [0, 0]⟩⟩
          ∧ (inNode .leaving (tries40 3 cancel)).sendQueue.entries.find? (·.cell == 40)
            = some { change40 with attempts := 3, cancelRequested := cancel }
          ∧ (leaving55 3 cancel).sendQueue.inFlight = some ⟨.entry 55, ⟨2, 55, 12, .fetch⟩⟩
          ∧ (leaving55 3 cancel).sendQueue.entries.find? (·.cell == 55) = some { fetch55 with attempts := 3, cancelRequested := cancel })
    ∧ change40.kind = .publication ∧ fetch55.kind = .fetch
    ∧ 2 + 1 < member.loader.params.retryLimit + 1 ∧ member.loader.params.retryLimit + 1 ≤ 3 + 1
    ∧ (trying (changed40 0) ∧ trying (changed40 3))
    ∧ (∀ gap ∈ [0, 3], (changed40 gap).sendQueue.inFlight = some ⟨.entry 40, ⟨1, 40, 12, .publication 4 0 [0, 0]⟩⟩
        ∧ (changed40 gap).sendQueue.entries.find? (·.cell == 40) = some change40
        ∧ ((changed40 gap).cell 40).changed = true ∧ ((changed40 gap).cell 40).cfg.policy = .onChange
        ∧ ((changed40 gap).cell 40).version ≠ 4 ∧ ((changed40 gap).cell 40).cfg.gap = gap) := by
  simp only [trying, awaitsAll, Live, ShapeSound, StandingSound, SlotsSound, QueueSound]
  and_intros <;> decide +kernel

/-- A node that leaves and sends a presence, the leaving one or a periodic one of before the DETACH, with attempts and a fault count. -/
def parting (leaving : Bool) (attempts send : Nat) : State :=
  sending .presence (counts send 0
    (inNode .leaving (member.setMembership { member.membership with presence := ⟨true, leaving, attempts, 0⟩ })))

theorem witness_LeavingPresenceEndsInDetached :
    (∀ s ∈ [parting true 2 233, parting true 3 233, parting true 0 234, parting false 0 233, parting false 0 234],
      Live s ∧ StandingSound s ∧ ShapeSound s ∧ s.node = .leaving ∧ s.sendQueue.inFlight = some ⟨.presence, s.image .presence⟩
        ∧ awaitsAll s)
    ∧ ((parting true 2 233).membership.presence.leaving = true ∧ (parting true 2 233).membership.presence.filled = true
      ∧ (parting true 2 233).standingUnit.sendFaults + 6 < 240 ∧ 240 ≤ (parting true 0 234).standingUnit.sendFaults + 6)
    ∧ ((parting true 2 233).membership.presence.attempts + 1 < (parting true 2 233).loader.params.retryLimit + 1
      ∧ (parting true 3 233).loader.params.retryLimit + 1 ≤ (parting true 3 233).membership.presence.attempts + 1)
    ∧ (parting false 0 233).membership.presence.leaving = false := by
  simp only [awaitsAll, Live, ShapeSound, StandingSound]
  and_intros <;> decide +kernel

theorem witness_DriverTimeoutSilencesTheNode :
    (∀ s ∈ [sends 239 0, inNode .leaving (sends 0 0), elapsed 5000 (some 3) (sends 0 0)],
      Live s ∧ ShapeSound s ∧ StandingSound s ∧ s.line.vetoDue = none ∧ s.line.driver = .released ∧ s.line.track = .sending
        ∧ (s.node = .member ∨ s.node = .leaving))
    ∧ (let s := sends 239 0; ¬ s.line.guardPlace * 4 ≤ s.line.elapsed ∧ s.loader.params.rateCode = 2)
    ∧ (let s := elapsed 5000 (some 3) (sends 0 0); s.line.stall = some 3 ∧ ¬ s.line.guardPlace ≤ 3)
    ∧ (member.line.track ≠ .sending ∧ Live member)
    ∧ (let s := elapsed (4 * (sends 0 0).line.guardPlace) none (sends 0 0);
      Live s ∧ s.line.guardPlace * 4 ≤ s.line.elapsed ∧ s.line.stall = none)
    ∧ (let s := elapsed 959 (some 3) (sends 0 0);
      Live s ∧ ShapeSound s ∧ StandingSound s ∧ s.pending = [] ∧ s.line.track = .sending ∧ s.node = .member ∧ s.line.stall = some 3
        ∧ 3 < s.line.guardPlace ∧ 240 * 2 ^ (4 - s.loader.params.rateCode) ≤ s.line.elapsed + 1) := by
  simp only [Live, ShapeSound, StandingSound]
  and_intros <;> decide +kernel

/-- A member that receives, with fault counts. -/
def receiving (send recv : Nat) : State := counts send recv (tracking .receiving member)

theorem witness_ReceiveFaultIsCountedAndVetoed :
    (∀ n ∈ [0, 118, 119, 126, 127], Live (receiving 119 n) ∧ (receiving 119 n).receives = true ∧ StandingSound (receiving 119 n)
      ∧ CountersSound (receiving 119 n))
    ∧ (FaultView.reported .check 0).kind? = some .check ∧ (FaultView.seen (List.replicate 7 false)).kind? = some .coding
    ∧ (let s := tracking .receiving (silent 0); Live s ∧ s.receives = true ∧ StandingSound s ∧ s.standingUnit.standing = .silent)
    ∧ (let s := tracking .receiving (window 30 0 false);
      Live s ∧ s.receives = true ∧ StandingSound s ∧ CountersSound s ∧ s.standingUnit.observations + 1 < 32)
    ∧ (let s := tracking .receiving (window 31 7 false);
      Live s ∧ s.receives = true ∧ StandingSound s ∧ CountersSound s ∧ 32 ≤ s.standingUnit.observations + 1) := by
  simp only [Live, StandingSound, CountersSound]
  and_intros <;> decide +kernel

/-- What is said of a frame reported to the receiving member. -/
def comes (f : Frame) : Prop :=
  Live (receiving 0 0) ∧ ShapeSound (receiving 0 0) ∧ (receiving 0 0).receives = true ∧ (FrameView.reported f).frame? = some f
    ∧ f.station ≠ (receiving 0 0).own ∧ StandingSound (receiving 0 0) ∧ CountersSound (receiving 0 0)

theorem witness_FramesTakenAreCountedAndAdmitted :
    comes ⟨1, 40, 31, .publication 0 0 []⟩ ∧ ((receiving 0 0).entry 31).state ≠ .present
    ∧ comes ⟨2, 40, 6, .fetch⟩ ∧ ((receiving 0 0).entry 6).state ≠ .present ∧ (FrameBody.fetch).kind = 3
    ∧ comes ⟨0, 0, 6, .mark 0⟩ ∧ ((receiving 0 0).entry 6).state = .foreign ∧ (FrameBody.mark 0).kind = 0
    ∧ ((receiving 0 0).entry 6).heard = true
    ∧ (comes ⟨1, 55, 5, .publication 0 0 [9]⟩ ∧ ((receiving 0 0).entry 5).heard = true
      ∧ ((receiving 0 0).entry 5).silence ≠ 3 * (receiving 0 0).loader.params.presenceInterval)
    ∧ (let s := (receiving 0 0).setEntry 5 { peer with silence := 12 };
      Live s ∧ ShapeSound s ∧ StandingSound s ∧ CountersSound s ∧ s.receives = true ∧ (s.entry 5).heard = true
        ∧ (FrameBody.publication 0 0 [9]).kind = 2 ∧ (s.entry 5).state = .present
        ∧ (s.entry 5).silence = 3 * s.loader.params.presenceInterval)
    ∧ (let s := tracking .receiving (window 31 8 false);
      Live s ∧ ShapeSound s ∧ StandingSound s ∧ CountersSound s ∧ s.receives = true ∧ s.own = 12 ∧ 32 ≤ s.standingUnit.observations + 1)
    ∧ (tracking .receiving (window 30 8 false)).standingUnit.observations + 1 < 32 := by
  simp only [comes, Live, ShapeSound, StandingSound, CountersSound]
  and_intros <;> decide +kernel

theorem witness_DuplicateStationHalts :
    Live (receiving 0 0) ∧ ShapeSound (receiving 0 0) ∧ (receiving 0 0).receives = true
      ∧ (FrameView.reported ⟨2, 40, 12, .fetch⟩).frame? = some ⟨2, 40, 12, .fetch⟩ ∧ (12 : Station) = (receiving 0 0).own
    ∧ (let s := tracking .receiving (window 31 8 false);
      Live s ∧ ShapeSound s ∧ StandingSound s ∧ CountersSound s ∧ s.receives = true ∧ s.own = 12 ∧ 32 ≤ s.standingUnit.observations + 1)
    ∧ (tracking .receiving (window 30 8 false)).standingUnit.observations + 1 < 32 := by
  simp only [Live, ShapeSound, StandingSound, CountersSound]
  and_intros <;> decide +kernel

/-- The receiving member with snapshot areas and a policy. -/
def stocked (a b : AreaState) (newer : Option AreaId) (policy : SnapshotPolicy) : State :=
  let s := (receiving 0 0).setSnapshots ⟨areaOf a, areaOf b, newer⟩
  s.setLoader { s.loader with params := { s.loader.params with snapshotPolicy := policy } }

theorem witness_TakenMarkBeginsTheCycle :
    comes ⟨0, 0, 5, .mark 65535⟩ ∧ ((receiving 0 0).entry 5).state ≠ .foreign
    ∧ ((receiving 0 0).node = .member ∧ (receiving 0 0).snapshots.areaA.state = .empty ∧ SnapshotsSound (receiving 0 0))
    ∧ (∀ s ∈ [stocked .ready .empty (some .a) .keepNewest, stocked .reading .empty none .keepFirst,
          stocked .ready .ready (some .b) .keepFirst, stocked .ready .ready (some .b) .keepNewest,
          stocked .ready .ready (some .a) .keepNewest, stocked .ready .reading (some .a) .keepNewest,
          stocked .reading .ready (some .b) .keepNewest],
        Live s ∧ SnapshotsSound s ∧ CountersSound s ∧ s.receives = true ∧ (5 : Station) ≠ s.own ∧ (s.entry 5).state ≠ .foreign
          ∧ s.node = .member ∧ s.snapshots.areaA.state ≠ .empty)
    ∧ (tracking .receiving (leading .waiting)).cycle.lead = true ∧ (5 : Station) < member.own ∧ member.own < (20 : Station)
    ∧ ((receiving 0 0).cycle.lead = false ∧ (receiving 0 0).cycle.takeover = none)
    ∧ (let s := tracking .receiving lateMember;
      Live s ∧ SnapshotsSound s ∧ CountersSound s ∧ s.receives = true ∧ (s.entry 5).state ≠ .foreign ∧ s.node = .member
        ∧ s.cycle.lead = false ∧ s.cycle.takeover = some 32286)
    ∧ comes ⟨0, 0, 20, .mark 0⟩ ∧ ((receiving 0 0).entry 20).state ≠ .foreign
    ∧ (tracking .receiving (listening 1 0)).receives = true ∧ (tracking .receiving (listening 1 0)).node ≠ .member := by
  simp only [comes, Live, ShapeSound, StandingSound, CountersSound, SnapshotsSound]
  and_intros <;> decide +kernel

theorem witness_PresenceUpdatesTheRoster :
    comes ⟨3, 0, 5, .presence 0 false false true false⟩ ∧ comes ⟨3, 0, 5, .presence 0 false true true false⟩
    ∧ comes ⟨3, 0, 31, .presence 1 true true true false⟩
    ∧ (⟨3, 0, 31, .presence 1 true true true false⟩ : Frame).wellFormed = true
    ∧ (⟨3, 0, 5, .presence 0 false true true false⟩ : Frame).wellFormed = true
    ∧ ((receiving 0 0).entry 5).state = .present ∧ ((receiving 0 0).entry 31).state ≠ .present
    ∧ ((receiving 0 0).entry 31).state ≠ .foreign
    ∧ (((receiving 0 0).cell 55).eff = .follow ∧ ((receiving 0 0).cell 55).owner = 5 ∧ ((receiving 0 0).cell 55).freshness = .fresh)
    ∧ (((receiving 0 0).cell 42).eff = .yielded ∧ ((receiving 0 0).cell 42).owner = 5 ∧ (receiving 0 0).node = .member)
    ∧ (let s := fetching .requesting 1 0 (queued [fetch55] (receiving 0 0));
      Live s ∧ SlotsSound s ∧ QueueSound s ∧ (s.slot 1).state = .requesting ∧ s.sendQueue.has 55 = true ∧ s.sendQueue.flies 55 = false
        ∧ (s.cell 55).owner = 5 ∧ s.cellsWhere (fun r => r.eff == .yielded && r.owner == 5) = [42]) := by
  simp only [comes, Live, ShapeSound, StandingSound, CountersSound, SlotsSound, QueueSound]
  and_intros <;> decide +kernel

theorem witness_PublicationsAreJudgedByOwnerAndVersion :
    (comes ⟨1, 55, 5, .publication 71 0 [9]⟩ ∧ ((receiving 0 0).entry 5).state = .present ∧ ((receiving 0 0).cell 55).eff = .follow)
    ∧ (comes ⟨1, 42, 5, .publication 3 0 [9]⟩ ∧ ((receiving 0 0).cell 42).eff = .yielded)
    ∧ [9, 9].length ≠ ((receiving 0 0).cell 55).cfg.length ∧ [9].length = ((receiving 0 0).cell 55).cfg.length
    ∧ (((receiving 0 0).cell 57).owner = 0 ∧ ((receiving 0 0).cell 57).freshness = .never)
    ∧ ((receiving 0 0).cell 58).owner = 20 ∧ (5 : Station) < 20
    ∧ (((receiving 0 0).cell 55).owner ≠ 0 ∧ ((receiving 0 0).cell 55).freshness = .fresh)
    ∧ (((receiving 0 0).cell 55).owner < (20 : Station) ∧ ((receiving 0 0).entry 20).state = .present)
    ∧ 128 ≤ ((72 : Version) - ((receiving 0 0).cell 55).version).toNat
    ∧ ((71 : Version) - ((receiving 0 0).cell 55).version).toNat < 128
    ∧ ((200 : Version) = ((receiving 0 0).cell 55).version ∧ [8] = ((receiving 0 0).cell 55).value)
    ∧ [9] ≠ ((receiving 0 0).cell 55).value
    ∧ (receiving 0 0).slotHolding 55 = none
    ∧ (let s := fetching .requesting 1 0 (receiving 0 0);
      Live s ∧ ShapeSound s ∧ CountersSound s ∧ s.receives = true ∧ (s.entry 5).state = .present ∧ (s.cell 55).eff = .follow
        ∧ s.slotHolding 55 = some 1 ∧ s.sendQueue.has 55 = false)
    ∧ (let s := fetching .requesting 1 0 (queued [change40, fetch55] (receiving 0 0));
      Live s ∧ ShapeSound s ∧ SlotsSound s ∧ QueueSound s ∧ s.receives = true ∧ s.slotHolding 55 = some 1 ∧ (s.slot 1).state = .requesting
        ∧ s.sendQueue.has 55 = true ∧ s.sendQueue.flies 55 = false ∧ s.sendQueue.defers 55 = false)
    ∧ (let s := (receiving 0 0).setCycle { (receiving 0 0).cycle with synced := true };
      Live s ∧ s.receives = true ∧ s.cycle.synced = true ∧ (7 : BitVec 8) ≠ s.cycle.number.setWidth 8
        ∧ (7 : BitVec 8) ≠ (s.cycle.number - 1).setWidth 8) := by
  simp only [comes, Live, ShapeSound, StandingSound, CountersSound, SlotsSound, QueueSound]
  and_intros <;> decide +kernel

theorem witness_ClaimClashesGoToTheLowerStation :
    (comes ⟨1, 40, 5, .publication 1 0 [1, 1]⟩ ∧ (5 : Station) < (receiving 0 0).own ∧ ((receiving 0 0).entry 5).state = .present)
    ∧ (comes ⟨1, 40, 20, .publication 1 0 [1, 1]⟩ ∧ (receiving 0 0).own < (20 : Station) ∧ ((receiving 0 0).entry 20).state = .present)
    ∧ (comes ⟨1, 99, 5, .publication 1 0 [1]⟩ ∧ ((receiving 0 0).cell 99).eff = .unused)
    ∧ (comes ⟨1, 40, 5, .publication 1 0 [1]⟩ ∧ [1].length ≠ ((receiving 0 0).cell 40).cfg.length)
    ∧ ((receiving 0 0).notices.list.length ≤ 27
      ∧ (receiving 0 0).loader.params.recordMask.getLsbD NoticeKind.lengthClash.code = true
      ∧ (receiving 0 0).loader.params.recordMask.getLsbD NoticeKind.claimLost.code = true
      ∧ (receiving 0 0).loader.params.recordMask.getLsbD NoticeKind.claimClash.code = true)
    ∧ (((receiving 0 0).cell 40).eff = .own ∧ [1, 1].length = ((receiving 0 0).cell 40).cfg.length)
    ∧ ((receiving 0 0).sendQueue.flies 40 = false ∧ (receiving 0 0).slotHolding 40 = none ∧ (receiving 0 0).node = .member
      ∧ (receiving 0 0).sendQueue.has 40 = false ∧ (receiving 0 0).sendQueue.defers 40 = false
      ∧ (receiving 0 0).sendQueue.entries.length < 16)
    ∧ (let s := crowded (receiving 0 0);
      Live s ∧ QueueSound s ∧ s.receives = true ∧ s.node = .member ∧ s.sendQueue.has 40 = true ∧ s.sendQueue.flies 40 = false
        ∧ s.sendQueue.defers 40 = false)
    ∧ (let s := tracking .receiving (inNode .cutOff member); Live s ∧ s.receives = true ∧ s.node ≠ .member) := by
  simp only [comes, Live, ShapeSound, StandingSound, CountersSound, QueueSound]
  and_intros <;> decide +kernel

theorem witness_PeerRequestsSuppressAndAreAnswered :
    (comes ⟨2, 40, 5, .fetch⟩ ∧ ((receiving 0 0).entry 5).state = .present ∧ ((receiving 0 0).cell 40).eff = .own
      ∧ (receiving 0 0).slotHolding 40 = none)
    ∧ (let s := fetching .requesting 1 0 (receiving 0 0);
      Live s ∧ s.receives = true ∧ s.slotHolding 55 = some 1 ∧ (s.slot 1).state = .requesting ∧ SlotsSound s ∧ s.sendQueue.has 55 = false)
    ∧ (let s := fetching .requesting 1 0 (queued [fetch55] (receiving 0 0));
      Live s ∧ s.receives = true ∧ s.slotHolding 55 = some 1 ∧ (s.slot 1).state = .requesting ∧ SlotsSound s ∧ s.sendQueue.has 55 = true
        ∧ s.sendQueue.flies 55 = false ∧ s.sendQueue.defers 55 = false ∧ QueueSound s)
    ∧ (let s := fetching .requesting 1 0 ((receiving 0 0).setSendQueue
        { (receiving 0 0).sendQueue with entries := [fetch55], inFlight := some ⟨.entry 55, ⟨2, 55, 12, .fetch⟩⟩ });
      Live s ∧ s.receives = true ∧ s.slotHolding 55 = some 1 ∧ SlotsSound s ∧ s.sendQueue.flies 55 = true)
    ∧ (let s := fetching .awaiting 1 0 (receiving 0 0);
      Live s ∧ s.receives = true ∧ s.slotHolding 55 = some 1 ∧ (s.slot 1).state = .awaiting ∧ (s.cell 55).eff ≠ .own) := by
  simp only [comes, Live, ShapeSound, StandingSound, CountersSound, SlotsSound, QueueSound]
  and_intros <;> decide +kernel

theorem witness_DiscardsStartsAndSuspensions :
    (Live (receiving 0 0) ∧ (receiving 0 0).receives = true ∧ (LineView.reported 1).discards = true)
    ∧ (Live member ∧ member.onLine = true ∧ member.line.lineState = .idle)
    ∧ (∀ run ∈ [0, 62, 63], ∀ t ∈ [Track.none, .trailing], let s := dominant run (tracking t member)
      Live s ∧ s.onLine = true ∧ s.line.lineState = .busy ∧ s.line.track = t ∧ s.line.driver = .released ∧ s.line.dominantRun = run)
    ∧ (let s := vetoing none (.veto 32) (tracking .none member);
      Live s ∧ s.onLine = true ∧ s.line.lineState = .busy ∧ s.line.track = .none ∧ s.line.driver = .veto 32)
    ∧ (∀ run ∈ [0, 63, 64], let s := dominant run (member.setLine { member.line with lineState := .stuck })
      Live s ∧ s.onLine = true ∧ s.line.lineState = .stuck ∧ s.line.track = .none ∧ s.line.dominantRun = run)
    ∧ (Live (sends 0 0) ∧ (sends 0 0).onLine = true ∧ (sends 0 0).line.lineState ≠ .idle ∧ (sends 0 0).line.track = .sending
      ∧ (receiving 0 0).line.lineState ≠ .idle ∧ (receiving 0 0).line.track = .receiving)
    ∧ (∀ n ∈ [10, 17], let s := member.setLine { member.line with suspension := true, idleRun := n }
      Live s ∧ s.onLine = true ∧ s.line.track = .none ∧ s.line.suspension = true ∧ 10 ≤ s.line.idleRun ∧ s.line.idleRun < 18) := by
  simp only [Live]
  and_intros <;> decide +kernel

theorem witness_QuietIntervalsAndTheStuckLine :
    (Live member ∧ member.onLine = true ∧ member.line.track = .none ∧ member.standingUnit.standing ≠ .silent
      ∧ member.line.lineState ≠ .stuck ∧ member.line.vetoDue = none ∧ ∀ left, member.line.driver ≠ .veto left)
    ∧ (Live (tracking .trailing member) ∧ (tracking .trailing member).line.track = .trailing)
    ∧ (let s := vetoing (some 4) .released (tracking .none member);
      Live s ∧ s.onLine = true ∧ s.line.track = .none ∧ s.line.lineState ≠ .stuck ∧ s.line.vetoDue ≠ none ∧ s.mayVeto = true)
    ∧ (let s := vetoing (some 4) .released (counts 120 0 (tracking .none member));
      Live s ∧ s.onLine = true ∧ s.line.track = .none ∧ s.line.lineState ≠ .stuck ∧ s.mayVeto = false
        ∧ ∀ left, s.line.driver ≠ .veto left)
    ∧ (let s := vetoing none (.veto 32) (tracking .none member);
      Live s ∧ s.onLine = true ∧ s.line.track = .none ∧ s.line.lineState ≠ .stuck ∧ s.line.vetoDue = none ∧ s.line.driver = .veto 32)
    ∧ (Live (silent 94) ∧ (silent 94).onLine = true ∧ (silent 94).standingUnit.standing = .silent
      ∧ (silent 94).standingUnit.quiet + 1 < 96)
    ∧ (Live (silent 95) ∧ (silent 95).standingUnit.standing = .silent ∧ 96 ≤ (silent 95).standingUnit.quiet + 1
      ∧ (silent 95).node = .cutOff) := by
  simp only [Live]
  and_intros <;> first | decide +kernel | exact released_drives_no_veto rfl

theorem witness_RecoveryAndWindowClose :
    (Live (silent 96) ∧ (silent 96).onLine = true ∧ (silent 96).standingUnit.standing = .silent ∧ 96 ≤ (silent 96).standingUnit.quiet
      ∧ (silent 96).node = .cutOff)
    ∧ (Live (window 32 8 false) ∧ (window 32 8 false).onLine = true ∧ 32 ≤ (window 32 8 false).standingUnit.observations
      ∧ 8 ≤ (window 32 8 false).standingUnit.faults ∧ (window 32 8 false).standingUnit.highError = false)
    ∧ (window 32 8 true).standingUnit.highError = true
    ∧ ((window 32 7 true).standingUnit.faults < 8 ∧ 2 ≤ (window 32 2 true).standingUnit.faults)
    ∧ ((window 32 1 true).standingUnit.faults < 2 ∧ (window 32 1 true).standingUnit.highError = true) := by
  simp only [Live]
  and_intros <;> decide +kernel

theorem witness_CountersSaturateAndPassThresholds :
    CountersSound member ∧ member.loader.params.threshold .sendFaults = some 65535 ∧ member.loader.params.threshold .vetoes = none
    ∧ (let s := { member with loader := { member.loader with params := { member.loader.params with thrSendFaults := 0 } } };
      CountersSound s ∧ s.loader.params.threshold .sendFaults = some 0
        ∧ s.counters.getD 2 0 ≤ 0 ∧ 0 < min (s.counters.getD 2 0 + 1) 65535) := by
  simp only [CountersSound]
  and_intros <;> decide +kernel

/-- A full notice queue. -/
def fullNotices : State := member.setNotices { member.notices with list := List.replicate 32 (note .lineStuck) }

theorem witness_PostsAreQueuedOrOverflow :
    (NoticesSound member ∧ member.loader.params.recordMask.getLsbD NoticeKind.lineStuck.code = true ∧ member.notices.list.length < 32)
    ∧ (NoticesSound fullNotices ∧ fullNotices.notices.list.length = 32 ∧ fullNotices.loader.params.noticeOverflow = .keepOld)
    ∧ (let s := { member with loader := { member.loader with params := { member.loader.params with recordMask := 0 } } };
      NoticesSound s ∧ s.loader.params.recordMask.getLsbD NoticeKind.lineStuck.code = false) := by
  simp only [NoticesSound]
  and_intros <;> decide +kernel

/-- What every statement about cycle starts asks of a state. -/
def startable (s : State) : Prop := Live s ∧ ShapeSound s ∧ SlotsSound s ∧ s.onLine = true

/-- A member, synced, whose station 5 has a silence count, with a slot of cell 55. -/
def quietPeer (silence : Nat) (slot : SlotState) (tries timer : Nat) : State :=
  fetching slot tries timer ((member.setEntry 5 { peer with silence := silence }).setCycle { member.cycle with synced := true })

theorem witness_SilentStationsDepart :
    (Live member ∧ ShapeSound member ∧ member.onLine = true ∧ (5 : Station) ≠ 0 ∧ (member.entry 5).state = .present
      ∧ 3 * member.loader.params.presenceInterval < (member.entry 5).silence
      ∧ ((member.entry 6).state = .foreign ∧ 3 * member.loader.params.presenceInterval < (member.entry 6).silence)
      ∧ ((member.cell 55).eff = .follow ∧ (member.cell 55).owner = 5 ∧ (member.cell 55).freshness = .fresh)
      ∧ ((member.cell 42).eff = .yielded ∧ (member.cell 42).owner = 5 ∧ member.node = .member ∧ (5 : Station) ≠ member.own))
    ∧ (let s := fetching .requesting 1 0 (queued [change40, fetch55] member);
      Live s ∧ SlotsSound s ∧ QueueSound s ∧ s.node = .member ∧ (s.slot 1).state = .requesting ∧ s.sendQueue.has 55 = true
        ∧ s.sendQueue.flies 55 = false ∧ (s.cell 55).owner = 5)
    ∧ (let s := inNode .cutOff member; Live s ∧ SlotsSound s ∧ QueueSound s ∧ s.onLine = true ∧ s.node ≠ .member)
    ∧ (startable member ∧ member.cycle.synced = false ∧ Departs none member 5)
    ∧ (startable (quietPeer 12 .free 0 0) ∧ (quietPeer 12 .free 0 0).cycle.synced = true ∧ Departs none (quietPeer 12 .free 0 0) 5)
    ∧ ((member.entry 20).heard = true ∧ ¬Departs none member 20 ∧ (member.entry 31).heard = false)
    ∧ (startable (quietPeer 11 .free 0 0) ∧ ((quietPeer 11 .free 0 0).entry 5).heard = true ∧ ¬Departs none (quietPeer 11 .free 0 0) 5)
    ∧ (startable (receiving 0 0) ∧ comes ⟨0, 0, 5, .mark 1⟩ ∧ ((receiving 0 0).entry 5).heard = true
      ∧ ¬Departs (some 5) (receiving 0 0) 5 ∧ Departs (some 20) (receiving 0 0) 5) := by
  simp only [startable, comes, Departs, Live, ShapeSound, SlotsSound, StandingSound, CountersSound, QueueSound]
  and_intros <;> decide +kernel

/-- A departure frees the slot of a FETCH entry that waits, removes the entry, and publishes what was lent, in either order (R59). -/
theorem test_departure_removes_the_waiting_fetch_entry :
    ∀ fetchFirst ∈ [true, false],
      let t := after (exec (.silenceDeparture 5 { Ties.default with fetchFirst := fetchFirst })
        (fetching .requesting 1 0 (queued [change40, fetch55] member)))
      t.slot 1 = FetchSlot.free ∧ t.sendQueue.entries.map (fun e => (e.cell, e.reason)) = [(40, .change), (42, .join)] := by decide +kernel

/-- A take completes a fetch: its waiting entry goes, and the lowest deferred cell takes the place (R110, R131). -/
theorem test_take_gives_the_place_of_the_fetch_entry :
    let s := (queued [fetch55] (tracking .receiving member)).setSendQueue { member.sendQueue with
      entries := [fetch55], deferred := [(41, .cyclic)] }
    let t := taken 1 55 5 (.publication 201 0 [9]) (fetching .requesting 1 0 s)
    t.slot 1 = FetchSlot.free ∧ t.sendQueue.entries.map Entry.cell = [41] ∧ t.sendQueue.deferred = [] := by decide +kernel

theorem witness_ListenWindowAndPresence :
    (Live (listening 2 2) ∧ (listening 2 2).node = .listening ∧ 2 ≤ (listening 2 2).membership.markTally
      ∧ (listening 2 2).loader.params.leadEligible = true)
    ∧ (Live (listening 0 4) ∧ (listening 0 4).loader.params.listenWindow ≤ (listening 0 4).membership.startTally
      ∧ (listening 0 4).membership.markTally = 0)
    ∧ ((listening 1 4).membership.markTally ≠ 0 ∧ (listening 1 4).loader.params.listenWindow ≤ (listening 1 4).membership.startTally)
    ∧ (let s := member.setMembership { member.membership with presenceCount := 4 };
      Live s ∧ s.node = .member ∧ s.loader.params.presenceInterval ≤ s.membership.presenceCount ∧ s.membership.presence.filled = false)
    ∧ (let s := member.setMembership { member.membership with presenceCount := 4, presence := ⟨true, false, 2, 0⟩ };
      Live s ∧ s.node = .member ∧ s.loader.params.presenceInterval ≤ s.membership.presenceCount ∧ s.membership.presence.filled = true)
    ∧ (∀ marks ∈ [0, 1], ∀ starts ∈ [2, 3], startable (listening marks starts) ∧ (listening marks starts).node = .listening
      ∧ (listening marks starts).loader.params.listenWindow = 4 ∧ startable (tracking .receiving (listening marks starts))
      ∧ (tracking .receiving (listening marks starts)).receives = true)
    ∧ (∀ count ∈ [2, 3], ∀ p ∈ [⟨false, false, 0, 0⟩, ⟨true, false, 2, 0⟩],
        let s := member.setMembership { member.membership with presenceCount := count, presence := p };
        startable s ∧ s.node = .member ∧ s.loader.params.presenceInterval = 4)
    ∧ (startable (inNode .cutOff member) ∧ (inNode .cutOff member).node ≠ .listening ∧ (inNode .cutOff member).node ≠ .member) := by
  simp only [startable, Live, ShapeSound, SlotsSound]
  and_intros <;> decide +kernel

theorem witness_LocalCycleStartCounts :
    (Live member ∧ member.onLine = true ∧ member.cycle.synced = false ∧ member.cycle.cycleTimer ≤ member.loader.params.periodUnits)
    ∧ (let s := (leading .waiting).setCycle { (leading .waiting).cycle with cycleTimer := 20000 };
      Live s ∧ s.onLine = true ∧ s.cycle.synced = false ∧ s.cycle.cycleTimer ≤ s.loader.params.periodUnits ∧ s.node = .member
        ∧ s.cycle.lead = true ∧ s.cycle.mark = .waiting)
    ∧ (Live (leading .inFlight) ∧ (leading .inFlight).cycle.mark = .inFlight ∧ (leading .inFlight).cycle.lead = true)
    ∧ (Live lateMember ∧ lateMember.onLine = true ∧ lateMember.cycle.synced = true ∧ lateMember.node ≠ .listening) := by
  simp only [Live]
  and_intros <;> decide +kernel

theorem witness_MarkFillAndTakeover :
    (Live (leading .empty) ∧ (leading .empty).onLine = true ∧ (leading .empty).cycle.lead = true ∧ (leading .empty).cycle.mark = .empty
      ∧ (leading .empty).cycle.cycleTimer ≤ (leading .empty).loader.params.periodUnits)
    ∧ (Live lateMember ∧ lateMember.node = .member ∧ lateMember.loader.params.leadEligible = true ∧ lateMember.cycle.lead = false
      ∧ lateMember.standingUnit.standing ≠ .silent ∧ lateMember.cycle.takeover = some 32286) := by
  simp only [Live]
  and_intros <;> decide +kernel

theorem witness_ReplicasGapsAndTriesEnd :
    (Live member ∧ member.onLine = true ∧ 0 < (member.cell 55).cfg.expected ∧ (member.cell 55).eff = .follow
      ∧ (member.cell 55).freshness = .fresh ∧ (member.cell 55).cfg.expected < (member.cell 55).age)
    ∧ ((member.cell 56).eff = .follow ∧ (member.cell 56).freshness = .stale ∧ (member.cell 56).cfg.expected = 64
      ∧ (member.cell 56).age = 255)
    ∧ ((member.cell 42).eff = .yielded ∧ (member.cell 42).freshness = .stale ∧ 4 * (member.cell 42).cfg.expected < (member.cell 42).age)
    ∧ (let s := member.setCell 40 { own40 with held := true };
      Live s ∧ s.onLine = true ∧ (s.cell 40).eff = .own ∧ (s.cell 40).cfg.policy = .onChange ∧ (s.cell 40).gapCount = 0
        ∧ (s.cell 40).held = true ∧ s.node = .member)
    ∧ (let s := inNode .cutOff (member.setCell 40 { own40 with held := true });
      Live s ∧ s.onLine = true ∧ (s.cell 40).eff = .own ∧ (s.cell 40).gapCount = 0 ∧ (s.cell 40).held = true ∧ s.node ≠ .member)
    ∧ (let s := fetching .awaiting 2 0 member;
      Live s ∧ (s.slot 1).state = .awaiting ∧ (s.slot 1).timer = 0 ∧ (s.slot 1).tries < s.loader.params.fetchTries
        ∧ s.sendQueue.has (s.slot 1).cell = false ∧ s.node = .member ∧ s.sendQueue.entries.length < 16)
    ∧ (let s := queued [fetch55] (fetching .awaiting 2 0 member); Live s ∧ s.sendQueue.has (s.slot 1).cell = true)
    ∧ (let s := fetching .awaiting 2 0 fullQueue;
      Live s ∧ s.sendQueue.has (s.slot 1).cell = false ∧ 16 ≤ s.sendQueue.entries.length)
    ∧ (let s := fetching .awaiting 3 0 member;
      Live s ∧ (s.slot 1).state = .awaiting ∧ (s.slot 1).timer = 0 ∧ s.loader.params.fetchTries ≤ (s.slot 1).tries)
    ∧ (∀ tries ∈ [2, 3], ∀ timer ∈ [1, 2], let s := quietPeer 11 .awaiting tries timer;
        startable s ∧ (s.slot 1).state = .awaiting ∧ (s.slot 1).tries = tries ∧ (s.slot 1).timer = timer ∧ s.loader.params.fetchTries = 3
          ∧ ¬Departs none s (s.cell (s.slot 1).cell).owner)
    ∧ (let s := quietPeer 11 .requesting 1 0; startable s ∧ (s.slot 1).state = .requesting ∧ (s.slot 0).state = .free)
    ∧ (let s := quietPeer 12 .awaiting 1 1;
      startable s ∧ (s.slot 1).inUse = true ∧ Departs none s (s.cell (s.slot 1).cell).owner)
    ∧ (let s := queued [change40, fetch55] (quietPeer 12 .requesting 1 0);
      startable s ∧ QueueSound s ∧ PlacesFilled s ∧ (s.slot 1).state = .requesting ∧ s.sendQueue.has 55 = true
        ∧ s.sendQueue.flies 55 = false ∧ s.sendQueue.defers 55 = false ∧ Departs none s (s.cell 55).owner)
    ∧ (let s := queued [fetch55] (quietPeer 11 .awaiting 2 1); startable s ∧ s.sendQueue.has 55 = true)
    ∧ (∀ q ∈ [fullQueue.sendQueue, (crowded fullQueue).sendQueue, { fullQueue.sendQueue with deferred := [(40, .join)] }],
        let s := member.setSendQueue q; s.sendQueue.has 99 = false ∧ QueueSound s)
    ∧ PlacesFilled (fullQueue.setSendQueue { fullQueue.sendQueue with deferred := [(40, .join)] }) ∧ ¬PlacesFilled (crowded member) := by
  simp only [startable, Departs, Live, ShapeSound, SlotsSound, QueueSound, PlacesFilled]
  and_intros <;> decide +kernel

/-- A member of cycle 64 in which station 5 stays, with a record in cell 55. -/
def ageing (synced : Bool) (r : CellRecord) : State :=
  ((member.setEntry 5 { peer with silence := 11 }).setCell 55 r).setCycle { member.cycle with number := 64, synced := synced }

/-- A replica of station 5 by its effective role, freshness, age and E. -/
def replica (eff : EffRole) (f : Freshness) (age expected : Nat) : CellRecord :=
  ⟨⟨.follow, 1, 1, false, .cyclic, 1, 0, 0, expected⟩, eff, [8], 1, 5, f, age, 0, false, false, 0⟩

/-- The premises of the statement, and those of an owner that does not depart, at a state. -/
def cyclePremises (s : State) : Prop :=
  Live s ∧ ShapeSound s ∧ SlotsSound s ∧ s.onLine = true ∧ s.node = .member ∧ (s.cell 55).owner = 5
    ∧ (s.entry 5).silence + 1 ≤ 3 * s.loader.params.presenceInterval

theorem witness_CyclicCellsAreTriggered :
    (∀ synced ∈ [true, false], ∀ r ∈ [replica .follow .never 0 2, replica .follow .lost 0 2, replica .follow .fresh 255 0,
        replica .follow .fresh 1 2, replica .follow .fresh 2 2, replica .follow .stale 7 2, replica .follow .stale 8 2,
        replica .follow .stale 254 64, replica .yielded .stale 8 2, replica .yielded .fresh 2 2],
      cyclePremises (ageing synced r) ∧ (ageing synced r).cycle.synced = synced)
    ∧ (let s := ageing false { own40 with held := true, gapCount := 1 };
      Live s ∧ ShapeSound s ∧ SlotsSound s ∧ s.onLine = true ∧ s.node = .member ∧ (s.cell 55).eff = .own
        ∧ (s.cell 55).cfg.policy = .onChange ∧ (s.cell 55).held = true ∧ (s.cell 55).gapCount - 1 = 0)
    ∧ ((member.cell 41).eff = .own ∧ (member.cell 41).cfg.policy = .cyclic
      ∧ (65 : CycleNo).toNat % (member.cell 41).cfg.period = (member.cell 41).cfg.phase)
    ∧ (comes ⟨0, 0, 5, .mark 65⟩ ∧ ((receiving 0 0).entry 5).state ≠ .foreign ∧ SlotsSound (receiving 0 0)
      ∧ ((receiving 0 0).cell 55).owner = 5)
    ∧ (Live (marking .member true) ∧ ShapeSound (marking .member true) ∧ SlotsSound (marking .member true)
      ∧ (marking .member true).onLine = true ∧ (marking .member true).sendQueue.inFlight = some ⟨.mark, ⟨0, 0, 12, .mark 6⟩⟩
      ∧ awaitsAll (marking .member true)) := by
  simp only [cyclePremises, comes, awaitsAll, Live, ShapeSound, SlotsSound, StandingSound, CountersSound]
  and_intros <;> decide +kernel

/-- At a cycle start the gap of a held change ends and its cell is published. -/
theorem test_localCycleStart_ends_a_gap :
    ((after (exec (.localCycleStart Ties.default) (ageing false { own40 with held := true, gapCount := 1 }))).cell 55).held = false
      ∧ (after (exec (.localCycleStart Ties.default) (ageing false { own40 with held := true, gapCount := 1 }))).sendQueue.has 55 = true := by
  decide +kernel

/-- At a loss of sync a peer departs, its replica LOST and the slot of its cell failed; a peer that stays has its slot asked again. -/
theorem test_lossOfSync_moves_roster_and_slots :
    (let t := after (exec (.lossOfSync Ties.default) (quietPeer 12 .awaiting 1 1));
      (t.entry 5).state = .absent ∧ (t.cell 55).freshness = .lost ∧ (t.slot 1).state = .free)
    ∧ (let t := after (exec (.lossOfSync Ties.default) (quietPeer 11 .awaiting 1 1));
      (t.entry 5).silence = 12 ∧ t.slot 1 = ⟨.requesting, 55, 2, 0⟩ ∧ t.sendQueue.has 55 = true) := by decide +kernel

theorem witness_ReceiverReadsWhatTheSenderSends :
    (⟨3, 255, 31, .publication 255 255 (List.replicate 16 255)⟩ : Frame).wellFormed = true
    ∧ (⟨0, 0, 1, .mark 0⟩ : Frame).wellFormed = true
    ∧ (FrameView.seen (⟨0, 0, 7, .mark 300⟩ : Frame).onLine).frame? = some ⟨0, 0, 7, .mark 300⟩ := by
  and_intros <;> decide +kernel

theorem witness_RequestBytesMakeTheRequest :
    (Instr.wrcell 40 (List.replicate 17 0)).wellFormed = true ∧ (requestBytes (.wrcell 40 (List.replicate 17 0))).isSome = true
    ∧ (requestBytes (.wrcell 40 (List.replicate 16 0))).isSome = true ∧ (requestBytes (.detach Ties.default)).isSome = true
    ∧ (List.replicate 7 true).length < 8 ∧ ([] : List Level).length < 8
    ∧ requestBytes .join = some [17] ∧ commandOf Ties.default [34, 40, 2, 1] = .transactionAbort ∧ commandOf Ties.default [] = .transactionAbort := by
  and_intros <;> decide +kernel

/-- A sound member with one command waiting. -/
def waiting (c : Instr) : State := member.setPending [c]

theorem witness_of_the_invariants :
    let s := waiting (.wrcell 40 [1, 2])
    NoticesSound s ∧ QueueSound s ∧ CountersSound s ∧ ShapeSound s ∧ SnapshotsSound s ∧ DriverBounded s ∧ StandingSound s ∧ LeadSound s
      ∧ SlotsSound s ∧ ValuesFit s ∧ FrozenSound s ∧ s.loader.frozen = true ∧ (after (step s)).port = ⟨[0, 5]⟩ := by
  simp only [NoticesSound, QueueSound, CountersSound, ShapeSound, SnapshotsSound, DriverBounded, StandingSound, LeadSound,
    SlotsSound, ValuesFit, FrozenSound]
  and_intros <;> first | decide +kernel | exact fun left h => absurd h (released_drives_no_veto rfl left)

theorem witness_StepKeepsQueueSlotsAndAreas :
    QueueSound (crowded member) ∧ SlotsSound (fetching .requesting 1 0 (crowded member)) ∧ ShapeSound (crowded member)
      ∧ ¬QueueSound (member.setSendQueue { member.sendQueue with deferred := [(255, .join), (41, .cyclic)] }) := by
  simp only [QueueSound, SlotsSound, ShapeSound]
  and_intros <;> decide +kernel

theorem witness_FrozenConfigurationStands :
    (∀ rest, (waiting .rdstat).pending ≠ .hardReset :: rest) ∧ (∀ levels rest, (waiting .rdstat).pending ≠ .resetRelease levels :: rest)
      ∧ ∀ rest, (waiting .rdstat).pending ≠ .restart :: rest := by
  simp [waiting, State.setPending]

end Sys2Proof.Tests
end

section
/-! SUPPORT. What the Line Interface does with no frame of another's: the own start, frames discarded, dominant symbols outside frames, the end of a
suspension (R3, R10, R15, R16, R18, R19). -/

set_option Elab.async false

namespace Sys2Proof.Machine

/-! ## Reading `Live` and the delivery of notices -/

theorem Live.inReset {s : State} (h : Live s) : s.inReset = false := h.1

theorem Live.outbox {s : State} (h : Live s) : s.notices.outbox = [] := h.2

/-- An event of a live node whose effect raises no notice is its effect. -/
theorem event_of_quiet_effect (turns : List Source) (f : State → State) {s : State} (h : Live s)
    (hf : (f s).notices.outbox = []) : event turns f s = .next (f s) := by
  rw [event_eq turns f s h.inReset, deliver_of_empty turns _ hf]

/-- An event of a live node whose effect is to leave the state alone changes nothing. -/
theorem event_of_idle_effect (turns : List Source) (f : State → State) {s : State} (h : Live s) (hf : f s = s) :
    event turns f s = .next s := by
  rw [event_of_quiet_effect turns f h (by rw [hf]; exact h.outbox), hf]

/-! ## FRAME_START (R10, R18, R114) -/

theorem NodeState.starts_iff (n : NodeState) : n.starts = true ↔ n = .member ∨ n = .leaving := by
  cases n <;> simp [NodeState.starts]

theorem State.mayStart_iff (s : State) :
    s.mayStart = true ↔ s.line.lineState = .idle ∧ s.line.track = .none ∧ s.sendQueue.inFlight = none
      ∧ (s.node = .member ∨ s.node = .leaving) ∧ s.standingUnit.standing ≠ .silent
      ∧ ¬(s.standingUnit.standing = .guarded ∧ s.line.suspension = true) := by
  simp only [State.mayStart, Bool.and_eq_true, Bool.not_eq_true', Bool.and_eq_false_iff, beq_iff_eq, bne_iff_ne, beq_eq_false_iff_ne,
    Option.isNone_iff_eq_none, NodeState.starts_iff, not_and, and_assoc]
  grind

theorem exec_frameStart_of_offer {s : State} {target : Target} (h : Live s) (hm : s.mayStart = true)
    (ho : s.offer = some target) : exec .frameStart s = .next (startFrame target s) := by
  have hf : (startFrame target s).notices = s.notices := (startFrame_changes target s).notices
  have := event_of_quiet_effect [] (fun _ => startFrame target s) h (by rw [hf]; exact h.outbox)
  simpa [exec, execFrameStart, event, h.inReset, hm, ho] using this

theorem exec_frameStart_of_no_start {s : State} (h : Live s) (hn : s.mayStart = false ∨ s.offer = none) :
    exec .frameStart s = .next s := by
  refine event_of_idle_effect _ _ h ?_
  rcases hn with hn | hn <;> simp [hn]

theorem startFrame_sendQueue (target : Target) (s : State) :
    (startFrame target s).sendQueue = { s.sendQueue with inFlight := some ⟨target, s.image target⟩ } := by
  unfold startFrame; split <;> rfl

theorem startFrame_line (target : Target) (s : State) :
    (startFrame target s).line = { s.line with
      lineState := .busy, track := .sending, driver := .frame, vetoDue := none, idleRun := 0, dominantRun := 1, suspension := false,
      tx := (s.image target).stream, elapsed := 0, stall := Config.transmitStall s.draws } := by
  unfold startFrame; split <;> rfl

theorem startFrame_draws (target : Target) (s : State) : (startFrame target s).draws = s.draws + 1 := by
  unfold startFrame; split <;> rfl

theorem startFrame_cycle (target : Target) (s : State) :
    (startFrame target s).cycle = { s.cycle with mark := if target = .mark then .inFlight else s.cycle.mark } := by
  unfold startFrame; split <;> rename_i h <;> simp [h]

/-- Settles O28: where `mayStart` holds and the queue offers a target the event is `startFrame`, else nothing. -/
theorem frameStartSendsTheOffer : Obligations.FrameStartSendsTheOffer := by
  intro s live
  refine ⟨fun target idle untracked free node standing offer => ?_, fun blocked => ?_⟩
  · have may : s.mayStart = true := by
      rw [State.mayStart_iff]
      refine ⟨idle, untracked, free, node, ?_, ?_⟩ <;> rcases standing with h | ⟨h, hs⟩ <;> simp [*]
    refine ⟨_, exec_frameStart_of_offer live may offer, startFrame_sendQueue _ _, ?_, startFrame_draws _ _,
      startFrame_cycle _ _, startFrame_changes _ _⟩
    rw [startFrame_line]
  · refine exec_frameStart_of_no_start live ?_
    by_cases offer : s.offer = none
    · exact .inr offer
    · refine .inl (Bool.eq_false_iff.mpr fun may => ?_)
      obtain ⟨idle, untracked, free, node, loud, unsuspended⟩ := (State.mayStart_iff s).mp may
      grind

/-! ## Frames discarded, dominant symbols outside frames, the end of a suspension (R3, R15, R16, R18, R19) -/

theorem LineInterface.outside_iff (l : LineInterface) : l.outside = true ↔ l.track = .none ∨ l.track = .trailing := by
  simp [LineInterface.outside]

theorem exec_frameDiscarded {s : State} {view : LineView} (h : Live s) (hr : s.receives = true) (hd : view.discards = true) :
    exec (.frameDiscarded view) s = .next (endFrame view.dominantRun (acknowledge s)) := by
  have := event_of_quiet_effect [] (fun s => endFrame view.dominantRun (acknowledge s)) h h.outbox
  simpa [exec, execFrameDiscarded, event, h.inReset, hr, hd] using this

theorem exec_startSymbol {s : State} (h : Live s) (hon : s.onLine = true) :
    exec .startSymbol s = .next (deliver [] (dominantSeen s)) := by
  simp [exec, execStartSymbol, event, h.inReset, hon]

theorem exec_lineStuck {s : State} (h : Live s) (hon : s.onLine = true) (hl : s.line.lineState ≠ .stuck) :
    exec .lineStuck s = .next (deliver [] (lineSticks s)) := by
  simp [exec, execLineStuck, event, h.inReset, hon, hl]

theorem exec_startSymbol_of_line_write {s : State} {l : LineInterface} (h : Live s) (hon : s.onLine = true)
    (hd : dominantSeen s = s.setLine l) : exec .startSymbol s = .next (s.setLine l) := by
  rw [exec_startSymbol h hon, hd, deliver_of_empty [] (s.setLine l) h.outbox]

theorem dominantSeen_idle {s : State} (h : s.line.lineState = .idle) :
    dominantSeen s = s.setLine { s.line with
      lineState := .busy, track := .receiving, driver := .released, vetoDue := none, idleRun := 0, dominantRun := 1,
      suspension := false, elapsed := 0 } := by
  simp [dominantSeen, h]

theorem dominantSeen_busy {s : State} (h : s.line.lineState = .busy) (ho : s.line.outside = true) :
    dominantSeen s = if 64 ≤ s.dominantNext then lineSticks s
      else s.setLine { s.line with idleRun := 0, dominantRun := s.dominantNext, elapsed := 0 } := by
  simp [dominantSeen, h, ho, Config.stuckRun]

theorem dominantSeen_stuck {s : State} (h : s.line.lineState = .stuck) (ho : s.line.outside = true) :
    dominantSeen s = s.setLine { s.line with idleRun := 0, dominantRun := min s.dominantNext 64, elapsed := 0 } := by
  simp [dominantSeen, h, ho, Config.stuckRun]

theorem dominantSeen_inside {s : State} (h : s.line.lineState ≠ .idle) (ho : s.line.outside = false) : dominantSeen s = s := by
  unfold dominantSeen
  split
  · contradiction
  · simp [ho]
  · simp [ho]

theorem exec_suspensionEnd {s : State} (h : Live s) (hon : s.onLine = true) (ht : s.line.track = .none)
    (hs : s.line.suspension = true) (h10 : 10 ≤ s.line.idleRun) (h18 : s.line.idleRun < 18) :
    exec .suspensionEnd s = .next (s.setLine { s.line with suspension := false, idleRun := 18 }) := by
  have := event_of_quiet_effect [] (fun s => s.setLine { s.line with suspension := false, idleRun := 18 }) h h.outbox
  simpa [exec, execSuspensionEnd, event, h.inReset, hon, ht, hs, h10, h18] using this

/-- Settles O42: one equation of `dominantSeen` for each state of the line, and the two events that only write the line. -/
theorem discardsStartsAndSuspensions : Obligations.DiscardsStartsAndSuspensions := by
  intro s live next outside
  have next_eq : next = s.dominantNext := rfl
  have outside_iff : s.line.outside = true ↔ outside := LineInterface.outside_iff _
  rw [next_eq]
  refine ⟨fun view hr hd => exec_frameDiscarded live hr hd, fun on idle => ?_, fun on busy out short => ?_, fun on busy out long => ?_,
    fun on stuck out => ?_, fun on line out => ?_, fun on => exec_suspensionEnd live on⟩
  · exact exec_startSymbol_of_line_write live on (dominantSeen_idle idle)
  · refine exec_startSymbol_of_line_write live on ?_
    rw [dominantSeen_busy busy (outside_iff.mpr out), if_neg (by omega)]
  · rw [exec_startSymbol live on, dominantSeen_busy busy (outside_iff.mpr out), if_pos long, exec_lineStuck live on (by simp [busy])]
  · exact exec_startSymbol_of_line_write live on (dominantSeen_stuck stuck (outside_iff.mpr out))
  · have inside : s.line.outside = false := Bool.eq_false_iff.mpr (mt outside_iff.mp out)
    rw [exec_startSymbol live on, dominantSeen_inside line inside, deliver_of_empty _ _ live.outbox]

end Sys2Proof.Machine
end

section
/-! SUPPORT. Sender and receiver: the fields of a frame as numbers, the symbols a receiver judges, and the receiver following the sender
through resync symbols (R5 to R9, R13, R15). -/

set_option Elab.async false

namespace Sys2Proof.Machine

/-! ## Bits and numbers -/

theorem ofBits_append_singleton (l : List Level) (b : Level) : ofBits (l ++ [b]) = 2 * ofBits l + b.toNat := by
  simp [ofBits]

/-- The first `k` symbols of a field spell its value without the symbols that follow. -/
theorem ofBits_range_getMsbD {w : Nat} (x : BitVec w) (k : Nat) (hk : k ≤ w) :
    ofBits ((List.range k).map fun i => x.getMsbD i) = x.toNat / 2 ^ (w - k) := by
  induction k with
  | zero => simp [ofBits, Nat.div_eq_of_lt x.isLt]
  | succ k ih =>
    have shift : w - k = w - (k + 1) + 1 := by omega
    have bit : x.getMsbD k = decide (x.toNat / 2 ^ (w - (k + 1)) % 2 = 1) := by
      have hw : w - 1 - k = w - (k + 1) := by omega
      simp [BitVec.getMsbD, BitVec.getLsbD, Nat.testBit_eq_decide_div_mod_eq, hw, show k < w by omega]
    rw [List.range_succ, List.map_append, List.map_singleton, ofBits_append_singleton, ih (by omega), shift, Nat.pow_succ,
      ← Nat.div_div_eq_div_mul, bit]
    rcases Nat.mod_two_eq_zero_or_one (x.toNat / 2 ^ (w - (k + 1))) with h | h <;> simp [h] <;> omega

theorem ofBits_bitsOf {w : Nat} (x : BitVec w) : ofBits (bitsOf x) = x.toNat := by
  simp [bitsOf, ofBits_range_getMsbD x w (Nat.le_refl w)]

@[simp] theorem bitsOf_length {w : Nat} (x : BitVec w) : (bitsOf x).length = w := by simp [bitsOf]

/-- Symbols read on from a number double its bound with each of them. -/
theorem foldl_bits_lt (l : List Level) (n : Nat) : l.foldl (fun n b => 2 * n + b.toNat) n < (n + 1) * 2 ^ l.length := by
  induction l generalizing n with
  | nil => simp
  | cons b l ih =>
    have bit := b.toNat_lt
    calc (b :: l).foldl (fun n b => 2 * n + b.toNat) n < (2 * n + b.toNat + 1) * 2 ^ l.length := ih _
      _ ≤ ((n + 1) * 2) * 2 ^ l.length := Nat.mul_le_mul_right _ (by omega)
      _ = (n + 1) * 2 ^ (b :: l).length := by rw [List.length_cons, Nat.pow_succ', Nat.mul_assoc]

/-- So many symbols spell a number below the power of two of their count. -/
theorem ofBits_lt (l : List Level) : ofBits l < 2 ^ l.length := by
  have bound := foldl_bits_lt l 0
  rwa [Nat.zero_add, Nat.one_mul] at bound

/-! ## Fields of a run of symbols -/

/-- A field of a run of symbols that is cut around it. -/
theorem fieldAt_of_split {w k : Nat} {got : List Level} (before : List Level) (x : BitVec w) (after : List Level)
    (h : got = before ++ (bitsOf x ++ after)) (hk : before.length = k) : fieldAt got k w = x.toNat := by
  have field : (bitsOf x ++ after).take w = bitsOf x := by
    rw [List.take_append_of_le_length (by simp), List.take_of_length_le (by simp)]
  rw [fieldAt, h, ← hk, List.drop_left, field, ofBits_bitsOf]

theorem fieldAt_take (got : List Level) {k i n : Nat} (h : i + n ≤ k) : fieldAt (got.take k) i n = fieldAt got i n := by
  rw [fieldAt, fieldAt, List.drop_take, List.take_take, Nat.min_eq_left (by omega)]

theorem fieldAt_lt (got : List Level) (k n : Nat) : fieldAt got k n < 2 ^ n :=
  Nat.lt_of_lt_of_le (ofBits_lt _) (Nat.pow_le_pow_right (by decide) (List.length_take_le _ _))

end Sys2Proof.Machine

namespace Sys2Proof

open Sys2Proof.Machine

/-! ## The field symbols of a frame (R7, R8) -/

theorem Frame.fieldSymbols_eq (f : Frame) :
    f.fieldSymbols = false :: (bitsOf f.cls ++ (bitsOf f.subject ++ (bitsOf f.station ++ (bitsOf f.body.kind
      ++ (f.body.header ++ bitsOf f.check))))) := by
  simp [Frame.fieldSymbols, Frame.covered, Frame.contention]

theorem Frame.fieldSymbols_length (f : Frame) : f.fieldSymbols.length = 35 + f.body.header.length := by
  simp [f.fieldSymbols_eq]; omega

theorem Frame.fieldAt_cls (f : Frame) : fieldAt f.fieldSymbols 1 2 = f.cls.toNat :=
  fieldAt_of_split [false] f.cls _ f.fieldSymbols_eq rfl

theorem Frame.fieldAt_subject (f : Frame) : fieldAt f.fieldSymbols 3 8 = f.subject.toNat :=
  fieldAt_of_split (false :: bitsOf f.cls) f.subject (bitsOf f.station ++ (bitsOf f.body.kind ++ (f.body.header ++ bitsOf f.check)))
    (by simp [f.fieldSymbols_eq]) (by simp)

theorem Frame.fieldAt_station (f : Frame) : fieldAt f.fieldSymbols 11 5 = f.station.toNat :=
  fieldAt_of_split (false :: bitsOf f.cls ++ bitsOf f.subject) f.station (bitsOf f.body.kind ++ (f.body.header ++ bitsOf f.check))
    (by simp [f.fieldSymbols_eq]) (by simp)

theorem Frame.fieldAt_kind (f : Frame) : fieldAt f.fieldSymbols 16 3 = f.body.kind.toNat :=
  fieldAt_of_split (false :: bitsOf f.cls ++ bitsOf f.subject ++ bitsOf f.station) f.body.kind (f.body.header ++ bitsOf f.check)
    (by simp [f.fieldSymbols_eq]) (by simp)

/-- A field of the header, which begins at place 19. -/
theorem Frame.fieldAt_header (f : Frame) {w k : Nat} (before : List Level) (x : BitVec w) (after : List Level)
    (h : f.body.header = before ++ (bitsOf x ++ after)) (hk : 19 + before.length = k) : fieldAt f.fieldSymbols k w = x.toNat :=
  fieldAt_of_split (false :: bitsOf f.cls ++ bitsOf f.subject ++ bitsOf f.station ++ bitsOf f.body.kind ++ before) x
    (after ++ bitsOf f.check) (by simp [f.fieldSymbols_eq, h]) (by simp; omega)

theorem FrameBody.kind_toNat_lt (b : FrameBody) : b.kind.toNat < 4 := by cases b <;> simp [FrameBody.kind]

theorem flatMap_bitsOf_length (data : List Byte) : (data.flatMap bitsOf).length = 8 * data.length := by
  induction data with
  | nil => rfl
  | cons b data ih => simp [ih]; omega

/-- A publication's header around one of its data bytes. -/
theorem header_around_byte (v : Version) (t : BitVec 8) (data : List Byte) (i : Nat) (hi : i < data.length) :
    (FrameBody.publication v t data).header
      = (bitsOf v ++ bitsOf t ++ bitsOf (BitVec.ofNat 5 data.length) ++ (data.take i).flatMap bitsOf)
        ++ (bitsOf data[i] ++ (data.drop (i + 1)).flatMap bitsOf) := by
  have split : data.flatMap bitsOf = (data.take i).flatMap bitsOf ++ (data.drop i).flatMap bitsOf := by
    rw [← List.flatMap_append, List.take_append_drop]
  rw [FrameBody.header, split, List.drop_eq_getElem_cons hi, List.flatMap_cons]
  simp

/-- A well-formed publication's length field spells its length (R7). -/
theorem Frame.fieldAt_dataLength (f : Frame) (hf : f.wellFormed = true) {v : Version} {t : BitVec 8} {data : List Byte}
    (hb : f.body = .publication v t data) : fieldAt f.fieldSymbols 35 5 = data.length := by
  have short : data.length ≤ 16 := by simpa [Frame.wellFormed, hb] using (Bool.and_eq_true_iff.mp hf).2
  rw [f.fieldAt_header (bitsOf v ++ bitsOf t) (BitVec.ofNat 5 data.length) (data.flatMap bitsOf) (by simp [hb, FrameBody.header]) (by simp)]
  simp; omega

theorem Frame.bodyOf_fieldSymbols (f : Frame) (hf : f.wellFormed = true) : bodyOf f.fieldSymbols = f.body := by
  cases hb : f.body with
  | mark n =>
    have number : fieldAt f.fieldSymbols 19 16 = n.toNat := f.fieldAt_header [] n [] (by simp [hb, FrameBody.header]) rfl
    simp [bodyOf, f.fieldAt_kind, hb, FrameBody.kind, number]
  | presence d guarded leaving eligible lead =>
    have digest : fieldAt f.fieldSymbols 19 16 = d.toNat :=
      f.fieldAt_header [] d [guarded, leaving, eligible, lead] (by simp [hb, FrameBody.header]) rfl
    have flag (i : Nat) :
        f.fieldSymbols.getD (35 + i) false = ([guarded, leaving, eligible, lead] ++ bitsOf f.check).getD i false := by
      have split : f.fieldSymbols = (false :: bitsOf f.cls ++ bitsOf f.subject ++ bitsOf f.station ++ bitsOf f.body.kind ++ bitsOf d)
          ++ ([guarded, leaving, eligible, lead] ++ bitsOf f.check) := by
        simp [f.fieldSymbols_eq, hb, FrameBody.header]
      rw [split, List.getD_eq_getElem?_getD, List.getElem?_append_right (by simp), List.getD_eq_getElem?_getD]
      simp
    have h35 : f.fieldSymbols[35]?.getD false = guarded := by simpa using flag 0
    have h36 : f.fieldSymbols[36]?.getD false = leaving := by simpa using flag 1
    have h37 : f.fieldSymbols[37]?.getD false = eligible := by simpa using flag 2
    have h38 : f.fieldSymbols[38]?.getD false = lead := by simpa using flag 3
    simp [bodyOf, f.fieldAt_kind, hb, FrameBody.kind, digest, h35, h36, h37, h38]
  | publication v t data =>
    have version : fieldAt f.fieldSymbols 19 8 = v.toNat :=
      f.fieldAt_header [] v (bitsOf t ++ (bitsOf (BitVec.ofNat 5 data.length) ++ data.flatMap bitsOf))
        (by simp [hb, FrameBody.header]) rfl
    have tag : fieldAt f.fieldSymbols 27 8 = t.toNat :=
      f.fieldAt_header (bitsOf v) t (bitsOf (BitVec.ofNat 5 data.length) ++ data.flatMap bitsOf)
        (by simp [hb, FrameBody.header]) (by simp)
    have bytes : (List.range data.length).map (fun i => BitVec.ofNat 8 (fieldAt f.fieldSymbols (40 + 8 * i) 8)) = data := by
      refine List.ext_getElem (by simp) fun i hi _ => ?_
      have hi : i < data.length := by simpa using hi
      have byte := f.fieldAt_header (k := 40 + 8 * i) _ data[i] _ (hb ▸ header_around_byte v t data i hi)
        (by simp only [List.length_append, bitsOf_length, flatMap_bitsOf_length, List.length_take, Nat.min_eq_left (Nat.le_of_lt hi)]; omega)
      simp [byte]
    simp [bodyOf, f.fieldAt_kind, hb, FrameBody.kind, version, tag, f.fieldAt_dataLength hf hb, bytes]
  | fetch => simp [bodyOf, f.fieldAt_kind, hb, FrameBody.kind]

/-- The receiver reads back every field of a frame from its field symbols. -/
theorem Frame.frameOf_fieldSymbols (f : Frame) (hf : f.wellFormed = true) : frameOf f.fieldSymbols = f := by
  simp [frameOf, f.bodyOf_fieldSymbols hf, f.fieldAt_cls, f.fieldAt_subject, f.fieldAt_station]

/-! ## What the receiver judges in the field symbols (R9, R13) -/

theorem Frame.checkGood_fieldSymbols (f : Frame) : checkGood f.fieldSymbols = true := by
  have split : f.fieldSymbols = (false :: f.covered) ++ (bitsOf f.check ++ []) := by simp [Frame.fieldSymbols]
  have length : f.fieldSymbols.length - 16 = (false :: f.covered).length := by simp [split]
  have field : fieldAt f.fieldSymbols (f.fieldSymbols.length - 16) 16 = f.check.toNat :=
    fieldAt_of_split (false :: f.covered) f.check [] split length.symm
  have covered : (f.fieldSymbols.take (f.fieldSymbols.length - 16)).drop 1 = f.covered := by
    rw [length, split, List.take_left, List.drop_one, List.tail_cons]
  rw [checkGood, field, covered, Frame.check, beq_self_eq_true]

/-- How many symbols the header of each kind has (R7, R8). -/
def FrameBody.headerLength : FrameBody → Nat
  | .mark _ => 16
  | .presence _ _ _ _ _ => 20
  | .publication _ _ data => 21 + 8 * data.length
  | .fetch => 0

theorem FrameBody.header_length (b : FrameBody) : b.header.length = b.headerLength := by
  cases b with
  | publication v t data =>
    simp only [FrameBody.header, FrameBody.headerLength, List.length_append, bitsOf_length, flatMap_bitsOf_length]
  | mark n => simp [FrameBody.header, FrameBody.headerLength]
  | presence d g l e a => simp [FrameBody.header, FrameBody.headerLength]
  | fetch => rfl

/-- Of the first symbols of a frame the receiver knows the frame's length, or none yet. -/
theorem Frame.fieldTotal_take (f : Frame) (hf : f.wellFormed = true) {k : Nat} (hk : k ≤ f.fieldSymbols.length) :
    fieldTotal (f.fieldSymbols.take k) = none ∧ k < f.fieldSymbols.length
      ∨ fieldTotal (f.fieldSymbols.take k) = some f.fieldSymbols.length := by
  have length : (f.fieldSymbols.take k).length = k := by simp [hk]
  have total := f.fieldSymbols_length
  rw [f.body.header_length] at total
  by_cases h19 : k < 19
  · exact .inl ⟨by simp [fieldTotal, length, h19], by omega⟩
  · have kind : fieldAt (f.fieldSymbols.take k) 16 3 = f.body.kind.toNat := by
      rw [fieldAt_take _ (by omega), f.fieldAt_kind]
    cases hb : f.body with
    | mark n => exact .inr (by simp [fieldTotal, length, h19, kind, total, hb, FrameBody.kind, FrameBody.headerLength])
    | presence d g l e a => exact .inr (by simp [fieldTotal, length, h19, kind, total, hb, FrameBody.kind, FrameBody.headerLength])
    | publication v t data =>
      rw [hb, FrameBody.headerLength] at total
      by_cases h40 : k < 40
      · exact .inl ⟨by simp [fieldTotal, length, h19, kind, h40, hb, FrameBody.kind], by omega⟩
      · have data : fieldAt (f.fieldSymbols.take k) 35 5 = data.length := by
          rw [fieldAt_take _ (by omega), f.fieldAt_dataLength hf hb]
        refine .inr ?_
        simp [fieldTotal, length, h19, kind, h40, hb, FrameBody.kind, data, total]
        omega
    | fetch => exact .inr (by simp [fieldTotal, length, h19, kind, total, hb, FrameBody.kind, FrameBody.headerLength])

/-- No symbol of a well-formed frame is a format error (R13). -/
theorem Frame.formatError_take (f : Frame) (hf : f.wellFormed = true) {k : Nat} (hk : k ≤ f.fieldSymbols.length) :
    formatError (f.fieldSymbols.take k) = false := by
  have length : (f.fieldSymbols.take k).length = k := by simp [hk]
  obtain ⟨station, data⟩ := Bool.and_eq_true_iff.mp hf
  have stationField (h : k = 16) : fieldAt (f.fieldSymbols.take k) 11 5 ≠ 0 := by
    rw [fieldAt_take _ (by omega), f.fieldAt_station]
    simpa [← BitVec.toNat_inj] using station
  have kindField (h : 19 ≤ k) : fieldAt (f.fieldSymbols.take k) 16 3 = f.body.kind.toNat := by
    rw [fieldAt_take _ (by omega), f.fieldAt_kind]
  have lengthField (h : k = 40) (h2 : f.body.kind.toNat = 2) : fieldAt (f.fieldSymbols.take k) 35 5 ≤ 16 := by
    cases hb : f.body with
    | publication v t bytes =>
      rw [fieldAt_take _ (by omega), f.fieldAt_dataLength hf hb]
      simpa [hb] using data
    | mark n => simp [hb, FrameBody.kind] at h2
    | presence d g l e a => simp [hb, FrameBody.kind] at h2
    | fetch => simp [hb, FrameBody.kind] at h2
  have kindBound := f.body.kind_toNat_lt
  simp only [formatError, length, Bool.or_eq_false_iff, Bool.and_eq_false_iff, beq_eq_false_iff_ne, decide_eq_false_iff_not]
  refine ⟨⟨?_, ?_⟩, ?_⟩
  · by_cases h : k = 16
    · exact .inr (stationField h)
    · exact .inl h
  · by_cases h : k = 19
    · exact .inr (by rw [kindField (by omega)]; omega)
    · exact .inl h
  · by_cases h : k = 40
    · by_cases h2 : f.body.kind.toNat = 2
      · exact .inr (by have := lengthField h h2; omega)
      · exact .inl (.inr (by rwa [kindField (by omega)]))
    · exact .inl (.inl h)

end Sys2Proof

namespace Sys2Proof.Machine

/-- Field symbols that a receiver reads to their end without a fault: no beginning of them is a format error, none but the whole is the frame's length,
and the check is good. -/
structure Readable (g : List Level) : Prop where
  wellFormatted : ∀ k ≤ g.length, formatError (g.take k) = false
  notShorter : ∀ k < g.length, fieldTotal (g.take k) ≠ some k
  whole : fieldTotal g = some g.length
  checked : checkGood g = true

theorem readable_fieldSymbols (f : Frame) (hf : f.wellFormed = true) : Readable f.fieldSymbols where
  wellFormatted _ hk := f.formatError_take hf hk
  notShorter k hk h := by
    rcases f.fieldTotal_take hf (Nat.le_of_lt hk) with ⟨hn, -⟩ | hs
    · simp [hn] at h
    · rw [hs, Option.some.injEq] at h; omega
  whole := by
    rcases f.fieldTotal_take hf (Nat.le_refl _) with ⟨-, hn⟩ | hs
    · exact absurd hn (Nat.lt_irrefl _)
    · rwa [List.take_length] at hs
  checked := f.checkGood_fieldSymbols

/-! ## The receiver's steps (R6, R13, R15) -/

theorem Rx.feed_cons_inl {rx rx' : Rx} {l : Level} (h : rx.step l = .inl rx') (ls : List Level) :
    rx.feed (l :: ls) = rx'.feed ls := by
  rw [Rx.feed, h]

/-- After six equal symbols in the fields the opposite symbol is a resync symbol, which is left out. -/
theorem Rx.step_resync {rx : Rx} (hp : rx.phase = .fields) (hr : rx.run = 6) :
    rx.step (!rx.last) = .inl { rx with last := !rx.last, run := 1 } := by
  simp [Rx.step, hp, hr]

theorem Rx.step_field {rx : Rx} (hp : rx.phase = .fields) (hr : rx.run ≠ 6) (l : Level) :
    rx.step l = rx.takeField l (if l = rx.last then rx.run + 1 else 1) := by
  simp [Rx.step, hp, hr]

theorem Rx.takeField_inside {rx : Rx} {l : Level} (hf : formatError (rx.got ++ [l]) = false)
    (ht : fieldTotal (rx.got ++ [l]) ≠ some (rx.got ++ [l]).length) (run : Nat) :
    rx.takeField l run = .inl ⟨l, run, rx.got ++ [l], .fields⟩ := by
  simp only [Rx.takeField, hf, if_neg ht, Bool.false_eq_true, if_false]

theorem Rx.takeField_last {rx : Rx} {l : Level} (hf : formatError (rx.got ++ [l]) = false)
    (ht : fieldTotal (rx.got ++ [l]) = some (rx.got ++ [l]).length) (hc : checkGood (rx.got ++ [l]) = true) (run : Nat) :
    rx.takeField l run = .inl ⟨l, run, rx.got ++ [l], if run = 6 then .lastResync else .guard⟩ := by
  simp only [Rx.takeField, hf, if_pos ht, Bool.false_eq_true, if_false, Rx.afterCheck, hc, if_true]
  split <;> rfl

theorem Rx.step_lastResync {rx : Rx} (hp : rx.phase = .lastResync) (hc : checkGood rx.got = true) :
    rx.step (!rx.last) = .inl { rx with phase := .guard } := by
  simp [Rx.step, hp, Rx.afterCheck, hc]

/-- From the guard symbol on, a frame acknowledged and not vetoed is taken. -/
theorem Rx.feed_trailer {rx : Rx} (hp : rx.phase = .guard) :
    rx.feed ([true, false] ++ List.replicate 8 true) = .taken (frameOf rx.got) := by
  obtain ⟨last, run, got, phase⟩ := rx
  subst hp
  rfl

/-! ## Sender and receiver (R5, R6) -/

/-- The run of equal levels that a sender and a receiver count at a symbol (R5). -/
def nextRun (last : Level) (run : Nat) (l : Level) : Nat := if l = last then run + 1 else 1

theorem nextRun_le {last : Level} {run n : Nat} (l : Level) (h : run < n) (hn : 1 ≤ n) : nextRun last run l ≤ n := by
  unfold nextRun; split <;> omega

theorem insertResync_cons (last : Level) (run : Nat) (x : TxSymbol) (xs : List TxSymbol) :
    insertResync last run (x :: xs)
      = if nextRun last run x.level = 6 then x :: ⟨!x.level, .resync⟩ :: insertResync (!x.level) 1 xs
        else x :: insertResync x.level (nextRun last run x.level) xs := rfl

/-- The receiver follows the sender through the field symbols, resync symbols and all: it stands before the guard symbol with exactly the
field symbols. -/
theorem Rx.feed_insertResync {g : List Level} (hg : Readable g) (tail : List Level) (x : TxSymbol) (xs : List TxSymbol) (rx : Rx)
    (hp : rx.phase = .fields) (hr : rx.run < 6) (hgot : rx.got ++ (x :: xs).map TxSymbol.level = g) :
    ∃ rx' : Rx, rx'.phase = .guard ∧ rx'.got = g
      ∧ rx.feed ((insertResync rx.last rx.run (x :: xs)).map TxSymbol.level ++ tail) = rx'.feed tail := by
  induction xs generalizing x rx with
  | nil =>
    have got : rx.got ++ [x.level] = g := by simpa using hgot
    have wellFormatted := hg.wellFormatted _ (Nat.le_refl _)
    rw [List.take_length, ← got] at wellFormatted
    have step := (Rx.step_field hp (Nat.ne_of_lt hr) x.level).trans
      (Rx.takeField_last wellFormatted (got ▸ hg.whole) (got ▸ hg.checked) (nextRun rx.last rx.run x.level))
    rw [got] at step
    rw [insertResync_cons]
    by_cases h6 : nextRun rx.last rx.run x.level = 6
    · rw [h6, if_pos rfl] at step
      have resync := Rx.step_lastResync (rx := ⟨x.level, 6, g, .lastResync⟩) rfl hg.checked
      refine ⟨⟨x.level, 6, g, .guard⟩, rfl, rfl, ?_⟩
      rw [if_pos h6, List.map_cons, List.map_cons, List.cons_append, List.cons_append, Rx.feed_cons_inl step,
        Rx.feed_cons_inl resync]
      rfl
    · rw [if_neg h6] at step
      refine ⟨⟨x.level, nextRun rx.last rx.run x.level, g, .guard⟩, rfl, rfl, ?_⟩
      rw [if_neg h6, List.map_cons, List.cons_append, Rx.feed_cons_inl step]
      rfl
  | cons y ys ih =>
    have hgot' : (rx.got ++ [x.level]) ++ (y :: ys).map TxSymbol.level = g := by simpa using hgot
    have begins : rx.got ++ [x.level] = g.take (rx.got ++ [x.level]).length := by rw [← hgot', List.take_left]
    have shorter : (rx.got ++ [x.level]).length < g.length := by rw [← hgot']; simp
    have wellFormatted := hg.wellFormatted _ (Nat.le_of_lt shorter)
    have notShorter := hg.notShorter _ shorter
    rw [← begins] at wellFormatted notShorter
    have step := Rx.takeField_inside wellFormatted notShorter (nextRun rx.last rx.run x.level)
    have step := (Rx.step_field hp (Nat.ne_of_lt hr) x.level).trans step
    rw [insertResync_cons]
    by_cases h6 : nextRun rx.last rx.run x.level = 6
    · obtain ⟨rx', guard, got, feed⟩ := ih y ⟨!x.level, 1, rx.got ++ [x.level], .fields⟩ rfl (by simp) hgot'
      refine ⟨rx', guard, got, ?_⟩
      rw [if_pos h6, List.map_cons, List.map_cons, List.cons_append, List.cons_append, Rx.feed_cons_inl step,
        Rx.feed_cons_inl (Rx.step_resync rfl h6)]
      exact feed
    · have run_lt : nextRun rx.last rx.run x.level < 6 := Nat.lt_of_le_of_ne (nextRun_le _ hr (by decide)) h6
      obtain ⟨rx', guard, got, feed⟩ :=
        ih y ⟨x.level, nextRun rx.last rx.run x.level, rx.got ++ [x.level], .fields⟩ rfl run_lt hgot'
      refine ⟨rx', guard, got, ?_⟩
      rw [if_neg h6, List.map_cons, List.cons_append, Rx.feed_cons_inl step]
      exact feed

theorem tagged_levels (f : Frame) : f.tagged.map TxSymbol.level = f.fieldSymbols := by
  simp [Frame.tagged, Frame.fieldSymbols, Frame.covered, Function.comp_def]

/-- A frame sent alone and acknowledged is taken as it was sent (R15). -/
theorem receive_onLine (f : Frame) (hf : f.wellFormed = true) : receive f.onLine = .taken f := by
  obtain ⟨rest, tagged⟩ : ∃ rest, f.tagged = ⟨false, .contention⟩ :: rest := ⟨_, rfl⟩
  obtain ⟨rx, guard, got, feed⟩ := Rx.feed_insertResync (readable_fieldSymbols f hf) ([true, false] ++ List.replicate 8 true)
    ⟨false, .contention⟩ rest Rx.start rfl (by decide) (by rw [← tagged, tagged_levels]; rfl)
  have begins : f.onLine.head? = some false := by
    simp [Frame.onLine, tagged, insertResync]
  have line : f.onLine
      = (insertResync Rx.start.last Rx.start.run f.tagged).map TxSymbol.level ++ ([true, false] ++ List.replicate 8 true) := by
    simp [Frame.onLine, Rx.start]
  calc receive f.onLine = Rx.start.feed f.onLine := by rw [receive, if_pos begins]
    _ = rx.feed ([true, false] ++ List.replicate 8 true) := by rw [line, tagged, feed]
    _ = .taken (frameOf f.fieldSymbols) := by rw [Rx.feed_trailer guard, got]
    _ = .taken f := by rw [f.frameOf_fieldSymbols hf]

/-! ## Every frame taken is well formed (R13) -/

/-- No beginning of the field symbols received is a format error, and from the last of them on they are the frame's length. -/
structure Rx.Sound (rx : Rx) : Prop where
  wellFormatted : ∀ k ≤ rx.got.length, formatError (rx.got.take k) = false
  whole : rx.phase ≠ .fields → fieldTotal rx.got = some rx.got.length

theorem Rx.start_sound : Rx.start.Sound where
  wellFormatted k _ := by simp [Rx.start, formatError]
  whole h := absurd rfl h

/-- A receiver of the same field symbols is sound as well, but for its phase. -/
theorem Rx.Sound.of_got {rx rx' : Rx} (h : rx.Sound) (hg : rx'.got = rx.got) (hp : rx.phase ≠ .fields ∨ rx'.phase = .fields) :
    rx'.Sound where
  wellFormatted := by rw [hg]; exact h.wellFormatted
  whole hf := by
    rw [hg]
    exact h.whole (hp.resolve_right hf)

theorem Rx.afterCheck_inl {rx rx' : Rx} (h : rx.afterCheck = .inl rx') : rx' = { rx with phase := .guard } := by
  unfold Rx.afterCheck at h
  split at h
  · exact (Sum.inl.inj h).symm
  · cases h

theorem Rx.afterCheck_inr {rx : Rx} {v : Verdict} (h : rx.afterCheck = .inr v) : v = .fault .check := by
  unfold Rx.afterCheck at h
  split at h
  · cases h
  · exact (Sum.inr.inj h).symm

theorem Rx.takeField_sound {rx rx' : Rx} {l : Level} {run : Nat} (hs : rx.Sound) (h : rx.takeField l run = .inl rx') : rx'.Sound := by
  have beginnings (hf : formatError (rx.got ++ [l]) = false) :
      ∀ k ≤ (rx.got ++ [l]).length, formatError ((rx.got ++ [l]).take k) = false := by
    intro k hk
    rcases Nat.lt_or_ge rx.got.length k with hlt | hle
    · rwa [List.take_of_length_le (by simp; omega)]
    · rw [List.take_append_of_le_length hle]
      exact hs.wellFormatted k hle
  unfold Rx.takeField at h
  dsimp only at h
  split at h
  · cases h
  · next hf =>
    have hf := beginnings (Bool.eq_false_iff.mpr hf)
    split at h
    · next total =>
      split at h
      · cases h; exact ⟨hf, fun _ => total⟩
      · rw [Rx.afterCheck_inl h]; exact ⟨hf, fun _ => total⟩
    · cases h; exact ⟨hf, fun hp => absurd rfl hp⟩

theorem Rx.takeField_not_taken {rx : Rx} {l : Level} {run : Nat} {f : Frame} : rx.takeField l run ≠ .inr (.taken f) := by
  intro h
  unfold Rx.takeField at h
  dsimp only at h
  split at h
  · cases h
  · split at h
    · split at h
      · cases h
      · cases Rx.afterCheck_inr h
    · cases h

/-- A step keeps a receiver sound. -/
theorem Rx.step_sound {rx rx' : Rx} {l : Level} (hs : rx.Sound) (h : rx.step l = .inl rx') : rx'.Sound := by
  unfold Rx.step at h
  split at h
  · next hp =>
    split at h
    · split at h
      · cases h
      · cases h; exact hs.of_got rfl (.inr hp)
    · exact Rx.takeField_sound hs h
  · next hp =>
    split at h
    · cases h
    · rw [Rx.afterCheck_inl h]; exact hs.of_got rfl (.inl (by simp [hp]))
  · next hp =>
    split at h
    · cases h; exact hs.of_got rfl (.inl (by simp [hp]))
    · cases h
  · next hp => cases h; exact hs.of_got rfl (.inl (by simp [hp]))
  · next hp =>
    split at h
    · split at h
      · cases h
      · cases h; exact hs.of_got rfl (.inl (by simp [hp]))
    · cases h

/-- A frame is taken only at the end of the end field, from the field symbols received. -/
theorem Rx.step_taken {rx : Rx} {l : Level} {f : Frame} (h : rx.step l = .inr (.taken f)) :
    f = frameOf rx.got ∧ rx.phase ≠ .fields := by
  unfold Rx.step at h
  split at h
  · split at h
    · split at h <;> cases h
    · exact absurd h Rx.takeField_not_taken
  · split at h
    · cases h
    · cases Rx.afterCheck_inr h
  · split at h <;> cases h
  · cases h
  · next hp =>
    split at h
    · split at h
      · cases h; exact ⟨rfl, by simp [hp]⟩
      · cases h
    · cases h

theorem Rx.feed_taken {rx : Rx} (hs : rx.Sound) {levels : List Level} {f : Frame} (h : rx.feed levels = .taken f) :
    ∃ rx' : Rx, rx'.Sound ∧ rx'.phase ≠ .fields ∧ f = frameOf rx'.got := by
  induction levels generalizing rx with
  | nil => cases h
  | cons l ls ih =>
    unfold Rx.feed at h
    split at h
    · next hstep => exact ih (Rx.step_sound hs hstep) h
    · next hstep =>
      split at h
      · subst h
        obtain ⟨frame, past⟩ := Rx.step_taken hstep
        exact ⟨rx, hs, past, frame⟩
      · cases h

/-- The length of a frame is known only from its kind on, and a publication's from its length field on. -/
theorem fieldTotal_bounds {got : List Level} (h : fieldTotal got = some got.length) :
    19 ≤ got.length ∧ (fieldAt got 16 3 = 2 → 40 ≤ got.length) := by
  have h19 : 19 ≤ got.length := by
    refine Nat.le_of_not_lt fun short => ?_
    simp [fieldTotal, short] at h
  refine ⟨h19, fun h2 => ?_⟩
  refine Nat.le_of_not_lt fun short => ?_
  simp [fieldTotal, h2, Nat.not_lt.mpr h19, short] at h

theorem wellFormed_iff (f : Frame) :
    f.wellFormed = true ↔ f.station ≠ 0 ∧ ∀ v t data, f.body = .publication v t data → data.length ≤ 16 := by
  cases hb : f.body <;> simp [Frame.wellFormed, hb]

theorem bodyOf_publication {got : List Level} {v : Version} {t : BitVec 8} {data : List Byte}
    (h : bodyOf got = .publication v t data) : fieldAt got 16 3 = 2 ∧ data.length = fieldAt got 35 5 := by
  unfold bodyOf at h
  split at h
  · cases h
  · cases h
  · next kind => cases h; exact ⟨kind, by simp⟩
  · cases h

/-- What a receiver has read to its end is a well-formed frame. -/
theorem frameOf_wellFormed {rx : Rx} (hs : rx.Sound) (hp : rx.phase ≠ .fields) : (frameOf rx.got).wellFormed = true := by
  obtain ⟨h19, h40⟩ := fieldTotal_bounds (hs.whole hp)
  have length {k : Nat} (hk : k ≤ rx.got.length) : (rx.got.take k).length = k := by simp [hk]
  have station : fieldAt rx.got 11 5 ≠ 0 := by
    have := hs.wellFormatted 16 (by omega)
    simpa [formatError, length (k := 16) (by omega), fieldAt_take rx.got (k := 16) (i := 11) (n := 5) (by decide)] using this
  have data (h2 : fieldAt rx.got 16 3 = 2) : fieldAt rx.got 35 5 ≤ 16 := by
    have := hs.wellFormatted 40 (h40 h2)
    simpa [formatError, length (h40 h2), fieldAt_take rx.got (k := 40) (i := 35) (n := 5) (by decide),
      fieldAt_take rx.got (k := 40) (i := 16) (n := 3) (by decide), h2] using this
  rw [wellFormed_iff]
  refine ⟨?_, fun v t bytes body => ?_⟩
  · have bound := fieldAt_lt rx.got 11 5
    rw [frameOf, ne_eq, ← BitVec.toNat_inj, BitVec.toNat_ofNat, Nat.mod_eq_of_lt bound]
    exact station
  · obtain ⟨kind, length⟩ := bodyOf_publication body
    exact length ▸ data kind

theorem receive_taken_wellFormed {levels : List Level} {f : Frame} (h : receive levels = .taken f) : f.wellFormed = true := by
  unfold receive at h
  split at h
  · obtain ⟨rx, sound, past, rfl⟩ := Rx.feed_taken Rx.start_sound h
    exact frameOf_wellFormed sound past
  · cases h

theorem seen_frame_iff {levels : List Level} {f : Frame} :
    (FrameView.seen levels).frame? = some f ↔ receive levels = .taken f := by
  unfold FrameView.frame?
  dsimp only
  split <;> simp [*]

theorem reported_frame_iff {g f : Frame} : (FrameView.reported g).frame? = some f ↔ g.wellFormed = true ∧ g = f := by
  simp [FrameView.frame?]

/-- Settles O53: the receiver follows the sender symbol by symbol (`Rx.feed_insertResync`); what it takes has passed every format check on
the way (`Rx.Sound`). -/
theorem receiverReadsWhatTheSenderSends : Obligations.ReceiverReadsWhatTheSenderSends := by
  refine ⟨receive_onLine, fun view f h => ?_⟩
  cases view with
  | reported g =>
    obtain ⟨wellFormed, rfl⟩ := reported_frame_iff.mp h
    exact wellFormed
  | seen levels => exact receive_taken_wellFormed (seen_frame_iff.mp h)

end Sys2Proof.Machine
end

section
/-! SUPPORT. The Standing Unit at the end of a reception, and RECEIVE_FAULT (R13, R14, R25, R27, R33). -/

set_option Elab.async false

namespace Sys2Proof.Machine

/-! ## Counters, notices and their delivery -/

@[simp] theorem count_counters (id : CounterId) (n : Nat) (s : State) : (count id n s).counters = bump id.number n s.counters := by
  unfold count
  dsimp only
  split <;> rfl

@[simp] theorem count_line (id : CounterId) (n : Nat) (s : State) : (count id n s).line = s.line := (count_changes id n s).line
@[simp] theorem count_standingUnit (id : CounterId) (n : Nat) (s : State) : (count id n s).standingUnit = s.standingUnit :=
  (count_changes id n s).standing

/-- A counter without a threshold is raised without a notice (R38). -/
theorem count_of_no_threshold {id : CounterId} {n : Nat} {s : State} (h : s.loader.params.threshold id = none) :
    count id n s = s.setCounters (bump id.number n s.counters) := by
  simp [count, h, passesThreshold, bump, counterAfter]

@[simp] theorem deliver_line (turns : List Source) (s : State) : (deliver turns s).line = s.line := (deliver_changes turns s).line
@[simp] theorem deliver_standingUnit (turns : List Source) (s : State) : (deliver turns s).standingUnit = s.standingUnit :=
  (deliver_changes turns s).standing
@[simp] theorem deliver_membership (turns : List Source) (s : State) : (deliver turns s).membership = s.membership :=
  (deliver_changes turns s).membership
@[simp] theorem deliver_node (turns : List Source) (s : State) : (deliver turns s).node = s.node := (deliver_changes turns s).node
@[simp] theorem deliver_lineCounters (turns : List Source) (s : State) : (deliver turns s).counters.take 7 = s.counters.take 7 :=
  (deliver_changes turns s).lineCounters

/-! ## The standing (R27, R29) -/

theorem standingOf_eq_active_iff (send recv : Nat) : standingOf send recv = .active ↔ send < 120 ∧ recv < 120 := by
  unfold standingOf
  split
  · simp; omega
  · split <;> simp <;> omega

/-- The Standing Unit made to fit its fault counts. -/
def StandingUnit.refitted (u : StandingUnit) : StandingUnit :=
  let st := standingOf u.sendFaults u.recvFaults
  if u.standing = .silent ∨ st = u.standing then u
  else { u with standing := st, quiet := if st = .silent then 0 else u.quiet }

theorem withdrawVeto_standingUnit (s : State) : (withdrawVeto s).standingUnit = s.standingUnit := (withdrawVeto_changes s).standing

theorem refit_standingUnit (s : State) : (refit s).standingUnit = s.standingUnit.refitted := by
  unfold refit StandingUnit.refitted
  dsimp only
  split
  · rfl
  · split <;> rename_i h <;> simp [raise, releaseDriver, withdrawVeto_standingUnit, h]

/-- Where the driver is released and no veto is due, nothing is left to release. -/
theorem releaseDriver_line {s : State} (hd : s.line.driver = .released) (hv : s.line.vetoDue = none) :
    (releaseDriver s).line = s.line := by
  unfold releaseDriver
  rw [State.setLine_line, ← hd, ← hv]

theorem withdrawVeto_line {s : State} (hd : s.line.driver = .released) (hv : s.line.vetoDue = none) :
    (withdrawVeto s).line = s.line := by
  unfold withdrawVeto
  split
  · exact releaseDriver_line hd hv
  all_goals rw [State.setLine_line, ← hv]

/-- The standing is refitted on a line with a released driver and no veto due without any effect there. -/
theorem refit_line {s : State} (hd : s.line.driver = .released) (hv : s.line.vetoDue = none) : (refit s).line = s.line := by
  unfold refit
  dsimp only
  split
  · rfl
  · split
    · rfl
    · exact withdrawVeto_line hd hv
    · exact releaseDriver_line hd hv

namespace StandingUnit

variable (u : StandingUnit)

@[simp] theorem refitted_sendFaults : u.refitted.sendFaults = u.sendFaults := by unfold refitted; dsimp only; split <;> rfl
@[simp] theorem refitted_recvFaults : u.refitted.recvFaults = u.recvFaults := by unfold refitted; dsimp only; split <;> rfl
@[simp] theorem refitted_observations : u.refitted.observations = u.observations := by unfold refitted; dsimp only; split <;> rfl
@[simp] theorem refitted_faults : u.refitted.faults = u.faults := by unfold refitted; dsimp only; split <;> rfl
@[simp] theorem refitted_highError : u.refitted.highError = u.highError := by unfold refitted; dsimp only; split <;> rfl
@[simp] theorem refitted_highErrorSeen : u.refitted.highErrorSeen = u.highErrorSeen := by
  unfold refitted; dsimp only; split <;> rfl

theorem refitted_standing (h : u.standing ≠ .silent) : u.refitted.standing = standingOf u.sendFaults u.recvFaults := by
  unfold refitted
  dsimp only
  split
  · next fits => exact (fits.resolve_left h).symm
  · rfl

end StandingUnit

/-! ## The high-error window (R33) -/

/-- The Standing Unit after its window is judged. -/
def StandingUnit.judged (u : StandingUnit) : StandingUnit :=
  { u with
    observations := 0
    faults := 0
    highError := highErrorAfter u.faults u.highError
    highErrorSeen := u.highErrorSeen || decide (8 ≤ u.faults) }

/-- The Standing Unit after an observation. -/
def StandingUnit.observed (fault : Bool) (u : StandingUnit) : StandingUnit :=
  let v : StandingUnit := { u with observations := u.observations + 1, faults := u.faults + flag fault }
  if windowLength ≤ u.observations + 1 then v.judged else v

theorem judgeWindow_standingUnit (s : State) : (judgeWindow s).standingUnit = s.standingUnit.judged := by
  unfold judgeWindow StandingUnit.judged
  dsimp only
  split <;> simp [raise]

theorem observe_standingUnit (fault : Bool) (s : State) : (observe fault s).standingUnit = s.standingUnit.observed fault := by
  unfold observe StandingUnit.observed
  dsimp only
  split
  · rw [judgeWindow_standingUnit, State.setStandingUnit_standingUnit]
  · rfl

namespace StandingUnit

variable (fault : Bool) (u : StandingUnit)

@[simp] theorem observed_sendFaults : (u.observed fault).sendFaults = u.sendFaults := by unfold observed; dsimp only; split <;> rfl
@[simp] theorem observed_recvFaults : (u.observed fault).recvFaults = u.recvFaults := by unfold observed; dsimp only; split <;> rfl
@[simp] theorem observed_standing : (u.observed fault).standing = u.standing := by unfold observed; dsimp only; split <;> rfl

end StandingUnit

/-! ## The end of a reception at the Standing Unit (R25, R26, R33) -/

/-- A reception counted: the observation, and the receive fault count of a node that is not SILENT. -/
def countReception (fault : Bool) (recvFaultsAfter : Nat → Nat) (s : State) : State :=
  let s := observe fault s
  if s.standingUnit.standing = .silent then s
  else refit (s.setStandingUnit { s.standingUnit with recvFaults := recvFaultsAfter s.standingUnit.recvFaults })

theorem standFault_eq (s : State) : standFault s = countReception true recvFaultsAfterFault s := rfl

theorem standTake_eq (s : State) : standTake s = countReception false recvFaultsAfterTake s := rfl

theorem countReception_standingUnit (fault : Bool) (g : Nat → Nat) (s : State) :
    (countReception fault g s).standingUnit
      = if s.standingUnit.standing = .silent then s.standingUnit.observed fault
        else { s.standingUnit.observed fault with recvFaults := g s.standingUnit.recvFaults }.refitted := by
  unfold countReception
  dsimp only
  rw [observe_standingUnit, StandingUnit.observed_standing, StandingUnit.observed_recvFaults]
  split
  · exact observe_standingUnit fault s
  · rw [refit_standingUnit]; rfl

theorem countReception_sendFaults (fault : Bool) (g : Nat → Nat) (s : State) :
    (countReception fault g s).standingUnit.sendFaults = s.standingUnit.sendFaults := by
  rw [countReception_standingUnit]; split <;> simp

theorem countReception_recvFaults (fault : Bool) (g : Nat → Nat) (s : State) :
    (countReception fault g s).standingUnit.recvFaults
      = if s.standingUnit.standing = .silent then s.standingUnit.recvFaults else g s.standingUnit.recvFaults := by
  rw [countReception_standingUnit]; split <;> simp

theorem countReception_standing {fault : Bool} {g : Nat → Nat} {s : State} (h : s.standingUnit.standing ≠ .silent) :
    (countReception fault g s).standingUnit.standing = standingOf s.standingUnit.sendFaults (g s.standingUnit.recvFaults) := by
  rw [countReception_standingUnit, if_neg h, StandingUnit.refitted_standing _ (by simpa using h)]
  simp

theorem countReception_standing_silent {fault : Bool} {g : Nat → Nat} {s : State} (h : s.standingUnit.standing = .silent) :
    (countReception fault g s).standingUnit.standing = .silent := by
  rw [countReception_standingUnit, if_pos h, StandingUnit.observed_standing, h]

theorem countReception_window_open {fault : Bool} {g : Nat → Nat} {s : State} (h : s.standingUnit.observations + 1 < 32) :
    (countReception fault g s).standingUnit.observations = s.standingUnit.observations + 1
      ∧ (countReception fault g s).standingUnit.faults = s.standingUnit.faults + flag fault := by
  rw [countReception_standingUnit]
  split <;> simp [StandingUnit.observed, windowLength, show ¬32 ≤ s.standingUnit.observations + 1 by omega]

theorem countReception_window_judged {fault : Bool} {g : Nat → Nat} {s : State} (h : 32 ≤ s.standingUnit.observations + 1) :
    WindowJudged (s.standingUnit.faults + flag fault) s (countReception fault g s) := by
  unfold WindowJudged
  rw [countReception_standingUnit]
  split <;> simp [StandingUnit.observed, StandingUnit.judged, highErrorAfter, windowLength, h]

theorem countReception_changes (fault : Bool) (g : Nat → Nat) (s : State) :
    ChangesOnly [.standing, .level, .line, .driver, .notices] s (countReception fault g s) := by
  have h : ChangesOnly [.standing, .level, .line, .driver, .notices] s (observe fault s) := (observe_changes _ _).mono (by decide)
  unfold countReception
  dsimp only
  split
  · exact h
  · exact (h.after (setStandingUnit_changes _ _)).after (refit_changes _)

theorem observe_line (fault : Bool) (s : State) : (observe fault s).line = s.line := (observe_changes fault s).line

theorem countReception_line {fault : Bool} {g : Nat → Nat} {s : State} (hd : s.line.driver = .released) (hv : s.line.vetoDue = none) :
    (countReception fault g s).line = s.line := by
  unfold countReception
  dsimp only
  split
  · exact observe_line fault s
  · rw [refit_line] <;> simp [observe_line, hd, hv]

/-! ## RECEIVE_FAULT (R13, R14) -/

theorem exec_receiveFault {s : State} {view : FaultView} {kind : FaultKind} (ties : Ties) (h : Live s) (hr : s.receives = true)
    (hk : view.kind? = some kind) :
    exec (.receiveFault view ties) s = .next (deliver ties.turns (faultFound kind view.dominantRun s)) := by
  simp [exec, execReceiveFault, event, h.inReset, hr, hk]

theorem dueVeto_line (n : Nat) (s : State) :
    (dueVeto n s).line = { s.line with vetoDue := if s.mayVeto then some (s.loader.params.symbolUnits n) else s.line.vetoDue } := by
  unfold dueVeto
  split <;> rfl

theorem dueVeto_standingUnit (n : Nat) (s : State) : (dueVeto n s).standingUnit = s.standingUnit := (dueVeto_changes n s).standing

theorem endFrame_line (run : Nat) (s : State) : (endFrame run s).line = { s.line with
    track := .none, driver := .released, vetoDue := none, idleRun := 0, dominantRun := run, tx := [], elapsed := 0 } := rfl

/-- The frame ended and the fault counted, at the Line Interface and at the Standing Unit; whether a veto is due is still open. -/
def faultCounted (run : Nat) (s : State) : State :=
  countReception true recvFaultsAfterFault (count .receiveFaults 1 (endFrame run s))

theorem faultFound_eq (kind : FaultKind) (run : Nat) (s : State) :
    faultFound kind run s = dueVeto (vetoDelay kind) (faultCounted run s) := by
  rw [faultFound, standFault_eq, faultCounted]

theorem faultCounted_line (run : Nat) (s : State) : (faultCounted run s).line = (endFrame run s).line := by
  unfold faultCounted
  rw [countReception_line (by simp [endFrame_line]) (by simp [endFrame_line]), count_line]

theorem faultCounted_counters (run : Nat) (s : State) : (faultCounted run s).counters = bump 3 1 s.counters := by
  unfold faultCounted
  rw [(countReception_changes _ _ _).counters, count_counters]
  rfl

theorem recvFaultsAfterFault_eq (n : Nat) : recvFaultsAfterFault n = min (n + 1) (max 127 n) := by
  unfold recvFaultsAfterFault
  split <;> omega

theorem count_endFrame_standingUnit (id : CounterId) (n run : Nat) (s : State) :
    (count id n (endFrame run s)).standingUnit = s.standingUnit := count_standingUnit _ _ _

theorem faultCounted_changes (run : Nat) (s : State) :
    ChangesOnly [.standing, .level, .counters, .lineCounters, .line, .driver, .notices] s (faultCounted run s) :=
  (((endFrame_changes _ _).mono (by decide)).after (count_changes _ _ _)).after (countReception_changes _ _ _)

/-- A fault found leaves a node in the standing for a veto exactly when it is ACTIVE with the fault counted (R14, R28). -/
theorem faultCounted_mayVeto_iff (run : Nat) (s : State) :
    (faultCounted run s).mayVeto = true ↔ s.node.drives = true ∧ s.standingUnit.standing ≠ .silent
      ∧ s.standingUnit.sendFaults < 120 ∧ min (s.standingUnit.recvFaults + 1) (max 127 s.standingUnit.recvFaults) < 120 := by
  have unit := count_endFrame_standingUnit .receiveFaults 1 run s
  rw [State.mayVeto, (faultCounted_changes run s).node, Bool.and_eq_true, beq_iff_eq]
  by_cases silent : s.standingUnit.standing = .silent
  · have still : (faultCounted run s).standingUnit.standing = .silent := countReception_standing_silent (by rw [unit, silent])
    simp [still, silent]
  · have fitted : (faultCounted run s).standingUnit.standing
        = standingOf s.standingUnit.sendFaults (recvFaultsAfterFault s.standingUnit.recvFaults) := by
      rw [faultCounted, countReception_standing (by rwa [unit]), unit]
    rw [fitted, standingOf_eq_active_iff, recvFaultsAfterFault_eq]
    exact and_congr_right fun _ => (and_iff_right silent).symm

theorem symbolUnits_vetoDelay (p : Params) (kind : FaultKind) :
    p.symbolUnits (vetoDelay kind) = (if kind = .check then 2 else 1) * 2 ^ (4 - p.rateCode) := by
  cases kind <;> rfl

theorem WindowJudged.congr {n : Nat} {s s' t t' : State} (h : WindowJudged n s' t') (hs : s'.standingUnit = s.standingUnit)
    (ht : t'.standingUnit = t.standingUnit) : WindowJudged n s t := by
  unfold WindowJudged at h ⊢
  rwa [hs, ht] at h

/-- Settles O34: the line of the ended frame, the reception counted as a fault, and the veto that the standing after it allows. -/
theorem receiveFaultIsCountedAndVetoed : Obligations.ReceiveFaultIsCountedAndVetoed := by
  intro s view ties kind live receives reported _ _
  have before := count_endFrame_standingUnit .receiveFaults 1 view.dominantRun s
  have unit : (deliver ties.turns (faultFound kind view.dominantRun s)).standingUnit
      = (countReception true recvFaultsAfterFault (count .receiveFaults 1 (endFrame view.dominantRun s))).standingUnit := by
    rw [deliver_standingUnit, faultFound_eq, dueVeto_standingUnit, faultCounted]
  have line : (deliver ties.turns (faultFound kind view.dominantRun s)).line
      = { (endFrame view.dominantRun s).line with
          vetoDue := if (faultCounted view.dominantRun s).mayVeto then
            some (s.loader.params.symbolUnits (vetoDelay kind)) else none } := by
    rw [deliver_line, faultFound_eq, dueVeto_line, faultCounted_line, (faultCounted_changes _ _).params]
    rfl
  refine ⟨_, exec_receiveFault ties live receives reported, ?_⟩
  rw [line, unit]
  refine ⟨rfl, rfl, rfl, ?_, ?_, fun short => ?_, fun full => ?_, ?_, ?_,
    ((faultFound_changes _ _ _).mono (by decide)).after (deliver_changes _ _)⟩
  · rw [countReception_recvFaults, before, recvFaultsAfterFault_eq]
  · rw [countReception_sendFaults, before]
  · exact before ▸ countReception_window_open (by rwa [before])
  · exact before ▸ (countReception_window_judged (by rwa [before])).congr before unit.symm
  · rw [deliver_lineCounters, faultFound_eq, (dueVeto_changes _ _).counters, faultCounted_counters]
  · simp only [faultCounted_mayVeto_iff, symbolUnits_vetoDelay]

end Sys2Proof.Machine
end

section
/-! SUPPORT. Vetoes that are over, quiet intervals and the stuck line (R3, R4, R14, R19, R31). -/

set_option Elab.async false

namespace Sys2Proof.Machine

/-! ## A veto that is over (R14; log 14) -/

/-- The driver once it drives no veto. -/
def Driver.vetoOver : Driver → Driver
  | .veto _ => .released
  | .released => .released
  | .frame => .frame

/-- Where no veto of this node can begin any more, only one that is driven ends. -/
theorem finishVeto_of_none_begins {s : State} (h : s.line.vetoDue = none ∨ s.mayVeto = false) :
    finishVeto s = s.setLine { s.line with driver := s.line.driver.vetoOver, vetoDue := none } := by
  have begun : (if s.line.vetoDue.isSome then beginVeto s else s) = s.setLine { s.line with vetoDue := none } := by
    split
    · next due => simp [beginVeto, h.resolve_left (Option.isSome_iff_ne_none.mp due)]
    · next due => rw [← Option.not_isSome_iff_eq_none.mp due]; rfl
  unfold finishVeto
  rw [begun]
  dsimp only [State.setLine_line]
  split <;> rename_i driver <;> rw [driver] <;> rfl

/-- A due veto that may still begin has begun, been counted, and is over. -/
theorem finishVeto_of_begins {s : State} (due : s.line.vetoDue ≠ none) (may : s.mayVeto = true) :
    finishVeto s = (s.setCounters (bump 4 1 s.counters)).setLine
      { s.line with driver := .released, vetoDue := none, idleRun := 0, dominantRun := 0 } := by
  have begun : (if s.line.vetoDue.isSome then beginVeto s else s)
      = (s.setCounters (bump 4 1 s.counters)).setLine { s.line with
          driver := .veto (s.loader.params.symbolUnits Config.vetoSymbols), vetoDue := none, idleRun := 0, dominantRun := 0 } := by
    rw [if_pos (Option.isSome_iff_ne_none.mpr due), beginVeto, if_pos may, count_of_no_threshold rfl]
    rfl
  unfold finishVeto
  rw [begun]
  rfl

theorem finishVeto_vetoDue (s : State) : (finishVeto s).line.vetoDue = none := by
  by_cases h : s.line.vetoDue = none ∨ s.mayVeto = false
  · rw [finishVeto_of_none_begins h]; rfl
  · rw [not_or, Bool.not_eq_false] at h
    rw [finishVeto_of_begins h.1 h.2]; rfl

theorem finishVeto_notices (s : State) : (finishVeto s).notices = s.notices := by
  by_cases h : s.line.vetoDue = none ∨ s.mayVeto = false
  · rw [finishVeto_of_none_begins h]; rfl
  · rw [not_or, Bool.not_eq_false] at h
    rw [finishVeto_of_begins h.1 h.2]; rfl

theorem finishVeto_lineState (s : State) : (finishVeto s).line.lineState = s.line.lineState := by
  by_cases h : s.line.vetoDue = none ∨ s.mayVeto = false
  · rw [finishVeto_of_none_begins h]; rfl
  · rw [not_or, Bool.not_eq_false] at h
    rw [finishVeto_of_begins h.1 h.2]; rfl

/-! ## QUIET_INTERVAL (R3, R4, R31) -/

theorem exec_quietInterval {s : State} (ties : Ties) (h : Live s) (on : s.onLine = true)
    (ht : s.line.track = .none ∨ s.line.track = .trailing) :
    exec (.quietInterval ties) s = .next (deliver ties.turns (countQuiet (lineQuiet (finishVeto s)))) := by
  simp [exec, execQuietInterval, event, h.inReset, on, ht]

theorem lineQuiet_line (s : State) : (lineQuiet s).line = { s.line with
    lineState := .idle
    track := .none
    driver := .released
    idleRun := 10 * (s.line.idleRun / 10 + 1)
    dominantRun := 0
    suspension := s.line.suspension && decide (10 * (s.line.idleRun / 10 + 1) < 18) } := by
  unfold lineQuiet
  dsimp only
  split <;> rfl

theorem lineQuiet_notices {s : State} (h : s.line.lineState ≠ .stuck) : (lineQuiet s).notices = s.notices := by
  unfold lineQuiet
  dsimp only
  rw [if_neg h]
  rfl

theorem countQuiet_loud {s : State} (h : s.standingUnit.standing ≠ .silent) : countQuiet s = s := by simp [countQuiet, h]

theorem countQuiet_short {s : State} (h : s.standingUnit.standing = .silent) (hq : s.standingUnit.quiet + 1 < 96) :
    countQuiet s = s.setStandingUnit { s.standingUnit with quiet := s.standingUnit.quiet + 1 } := by
  simp [countQuiet, h, show ¬96 ≤ s.standingUnit.quiet + 1 by omega]

theorem countQuiet_full {s : State} (h : s.standingUnit.standing = .silent) (hq : 96 ≤ s.standingUnit.quiet + 1) :
    countQuiet s = recover s := by
  simp [countQuiet, h, hq]

theorem enterListening_of_onLine {s : State} (h : s.onLine = true) :
    enterListening s = s.setMembership { s.membership with node := .listening, markTally := 0, startTally := 0 } := by
  simp [enterListening, h]

theorem recover_standingUnit (s : State) : (recover s).standingUnit
    = { s.standingUnit with sendFaults := 0, recvFaults := 0, standing := .active, quiet := 0 } := by
  unfold recover
  dsimp only
  split
  · rw [(enterListening_changes _).standing]; rfl
  · rfl

theorem recover_node {s : State} (h : s.node = .cutOff) :
    (recover s).node = if s.loader.params.autoRecovery then .listening else .cutOff := by
  unfold recover
  dsimp only
  by_cases auto : s.loader.params.autoRecovery = true
  · rw [if_pos ⟨auto, h⟩, if_pos auto]
    unfold enterListening
    dsimp only
    split <;> rfl
  · rw [if_neg (fun both => auto both.1), if_neg auto]
    exact h

/-- A node that recovers has its receiver on: where it listens at once the line and the clock go on. -/
theorem recover_keeps_line_and_clock (s : State) :
    ChangesOnly [.standing, .level, .membership, .node, .notices] s (recover s) := by
  have notices (u : StandingUnit) (n : Nat) : ChangesOnly [.standing, .level, .membership, .node, .notices] s
      (raise .recovered none 0 0 (raise .standing none 0 n (s.setStandingUnit u))) :=
    (((setStandingUnit_changes _ _).mono (by decide)).after (raise_changes _ _ _ _ _)).after (raise_changes _ _ _ _ _)
  unfold recover
  dsimp only
  split
  · next listens =>
    rw [enterListening_of_onLine]
    · exact (notices _ _).after (setMembership_changes _ _)
    · have cutOff := listens.2
      rw [State.onLine, cutOff]
      rfl
  · exact notices _ _

theorem countQuiet_keeps_line_and_clock (s : State) :
    ChangesOnly [.standing, .level, .membership, .node, .notices] s (countQuiet s) := by
  unfold countQuiet
  dsimp only
  repeat' split
  · exact recover_keeps_line_and_clock s
  · exact (setStandingUnit_changes _ _).mono (by decide)
  · exact .refl s

/-- What a quiet interval makes of a live node, its notices not yet delivered. -/
def quietened (s : State) : State := countQuiet (lineQuiet (finishVeto s))

theorem quietened_changes (s : State) :
    ChangesOnly [.line, .driver, .standing, .level, .membership, .node, .counters, .lineCounters, .notices] s (quietened s) :=
  (((finishVeto_changes s).mono (by decide)).after (lineQuiet_changes _)).after (countQuiet_keeps_line_and_clock _)

/-- The line and the veto are settled before the Standing Unit counts, and touch nothing but the line, counters and notices. -/
theorem lineQuiet_finishVeto_changes (s : State) :
    ChangesOnly [.line, .driver, .counters, .lineCounters, .notices] s (lineQuiet (finishVeto s)) :=
  (finishVeto_changes s).after (lineQuiet_changes _)

theorem quietened_line (s : State) : (quietened s).line = (lineQuiet (finishVeto s)).line := (countQuiet_keeps_line_and_clock _).line

theorem quietened_counters (s : State) : (quietened s).counters = (finishVeto s).counters :=
  (countQuiet_keeps_line_and_clock _).counters.trans (lineQuiet_changes _).counters

theorem quietened_of_loud {s : State} (h : s.standingUnit.standing ≠ .silent) : quietened s = lineQuiet (finishVeto s) :=
  countQuiet_loud (by rwa [(lineQuiet_finishVeto_changes s).standing])

/-- A quiet interval that ends no stuck episode and counts for no SILENT node posts nothing. -/
theorem quietened_notices {s : State} (loud : s.standingUnit.standing ≠ .silent) (unstuck : s.line.lineState ≠ .stuck) :
    (quietened s).notices = s.notices := by
  rw [quietened_of_loud loud, lineQuiet_notices (by rwa [finishVeto_lineState]), finishVeto_notices]

/-! ## LINE_STUCK (R19, R34) -/

/-- The line made STUCK by an event that raises no other notice: LINE_STUCK SET reaches the queue. -/
theorem deliver_stick {s : State} (h : s.notices.outbox = []) :
    deliver [] (stick s) = post ⟨.lineStuck, none, 0, s.cycle.number, 1⟩
      ((s.setLine { s.line with
        lineState := .stuck
        idleRun := 0
        dominantRun := 64
        elapsed := if s.line.track = .sending then s.line.elapsed else 0 }).setStandingUnit
        { s.standingUnit with lineStuckSeen := true }) := by
  have outbox : (stick s).notices.outbox = [⟨.lineStuck, none, 0, s.cycle.number, 1⟩] := by simp [stick, raise, h, byte]
  have emptied : s.notices = { s.notices with outbox := [] } := by rw [← h]
  unfold deliver
  rw [outbox, arrange, List.foldl_cons, List.foldl_nil]
  congr 1
  rw [stick]
  dsimp only [raise, State.setNotices, State.setStandingUnit, State.setLine, Config.stuckRun]
  rw [← emptied]

/-- Settles O43: the veto is over (`finishVeto`), then the line is quiet or STUCK, and the Standing Unit counts. -/
theorem quietIntervalsAndTheStuckLine : Obligations.QuietIntervalsAndTheStuckLine := by
  refine ⟨fun s ties live on untracked => ?_, fun s live on unstuck => ?_⟩
  · have before := lineQuiet_finishVeto_changes s
    have line := (quietened_line s).trans (lineQuiet_line _)
    refine ⟨deliver ties.turns (quietened s), exec_quietInterval ties live on untracked, ?_⟩
    simp only [deliver_line, deliver_standingUnit, deliver_membership, deliver_lineCounters, deliver_node, line, quietened_counters]
    refine ⟨trivial, trivial, trivial, finishVeto_vetoDue s, trivial, fun none => ?_, fun due may => ?_, fun loud => ?_,
      fun loud unstuck => ?_, fun silent short => ?_, fun silent full => ?_,
      ((quietened_changes s).mono (by decide)).after (deliver_changes _ _)⟩
    · rw [finishVeto_of_none_begins none]
      exact ⟨rfl, rfl⟩
    · rw [finishVeto_of_begins due may]
      exact ⟨by simp, rfl⟩
    · rw [quietened_of_loud loud]
      exact ⟨before.standing, before.membership⟩
    · have notices := quietened_notices loud unstuck
      rw [deliver_of_empty _ _ (by rw [notices]; exact live.outbox), quietened_counters]
      refine ⟨notices, fun none => ?_⟩
      rw [finishVeto_of_none_begins (.inl none)]
      rfl
    · rw [quietened, countQuiet_short (by rwa [before.standing]) (by rwa [before.standing])]
      exact ⟨by rw [before.standing]; rfl, before.membership⟩
    · rw [quietened, countQuiet_full (by rwa [before.standing]) (by rwa [before.standing]), recover_standingUnit, before.standing]
      refine ⟨rfl, fun cutOff => ?_⟩
      rw [recover_node (by rwa [before.node]), before.loader]
  · have stuck : exec .lineStuck s = .next (deliver [] (stick (finishVeto s))) := exec_lineStuck live on unstuck
    rw [deliver_stick (by rw [finishVeto_notices]; exact live.outbox)] at stuck
    refine ⟨fun none undriven => ?_, fun left none driven => ?_, fun due may => ?_⟩
    · have driver : s.line.driver.vetoOver = s.line.driver := by
        cases h : s.line.driver with
        | veto left => exact absurd h (undriven left)
        | released => rfl
        | frame => rfl
      rw [stuck, finishVeto_of_none_begins none, driver]
      rfl
    · rw [stuck, finishVeto_of_none_begins (.inl none), driven]
      rfl
    · rw [stuck, finishVeto_of_begins due may]
      rfl

end Sys2Proof.Machine
end

section
/-! SUPPORT. FRAME_TAKEN: the sender's Roster entry, admission, and what the Line Interface and the Standing Unit count (R15, R57, R60). -/

set_option Elab.async false

namespace Sys2Proof.Machine

/-! ## Roster entries (R54) -/

theorem entry_of_roster {s t : State} (h : t.membership.roster = s.membership.roster) (st : Station) : t.entry st = s.entry st := by
  simp [State.entry, Membership.entry, h]

theorem ChangesOnly.entry {ps : List Block} {s t : State} (h : ChangesOnly ps s t) (st : Station)
    (hb : Block.membership ∉ ps := by decide) : t.entry st = s.entry st :=
  entry_of_roster (by rw [h.membership hb]) st

theorem entry_zero (s : State) : s.entry 0 = RosterEntry.reset := rfl

theorem entry_of_ne_zero (s : State) {st : Station} (h : st ≠ 0) :
    s.entry st = s.membership.roster.getD (st.toNat - 1) RosterEntry.reset := if_neg h

theorem setEntry_zero (s : State) (e : RosterEntry) : s.setEntry 0 e = s := rfl

theorem setEntry_roster (s : State) {st : Station} (h : st ≠ 0) (e : RosterEntry) :
    (s.setEntry st e).membership.roster = s.membership.roster.set (st.toNat - 1) e := by
  rw [State.setEntry, Membership.setEntry, if_neg h]
  rfl

theorem Station.toNat_ne_zero {st : Station} (h : st ≠ 0) : st.toNat ≠ 0 := fun hz => h (BitVec.eq_of_toNat_eq hz)

theorem entry_setEntry_same {s : State} {st : Station} (e : RosterEntry) (hl : s.membership.roster.length = Config.stations)
    (h : st ≠ 0) : (s.setEntry st e).entry st = e := by
  have index : st.toNat - 1 < s.membership.roster.length := by
    rw [hl, Config.stations]
    have := st.isLt
    have := Station.toNat_ne_zero h
    omega
  rw [entry_of_ne_zero _ h, setEntry_roster _ h]
  simp [index]

theorem entry_setEntry_other {s : State} {st other : Station} (e : RosterEntry) (h : st ≠ other) :
    (s.setEntry other e).entry st = s.entry st := by
  by_cases ho : other = 0
  · rw [ho, setEntry_zero]
  · by_cases hs : st = 0
    · rw [hs, entry_zero, entry_zero]
    · have index : other.toNat - 1 ≠ st.toNat - 1 := by
        have := Station.toNat_ne_zero ho
        have := Station.toNat_ne_zero hs
        have : other.toNat ≠ st.toNat := fun he => h (BitVec.eq_of_toNat_eq he).symm
        omega
      rw [entry_of_ne_zero _ hs, entry_of_ne_zero _ hs, setEntry_roster _ ho, List.getD_eq_getElem?_getD, List.getElem?_set_ne index,
        List.getD_eq_getElem?_getD]

/-- A station without an entry of its own is not heard. -/
theorem station_ne_zero_of_heard {s : State} {st : Station} (h : (s.entry st).heard = true) : st ≠ 0 := by
  rintro rfl
  simp [State.entry, Membership.entry, RosterEntry.heard, RosterEntry.reset] at h

/-- The state of an entry written back stands, whether or not the Roster has a place for it. -/
theorem entry_state_setEntry {s : State} {st : Station} {e : RosterEntry} (h : e.state = (s.entry st).state) :
    ((s.setEntry st e).entry st).state = (s.entry st).state := by
  by_cases hz : st = 0
  · rw [hz, setEntry_zero]
  · by_cases hi : st.toNat - 1 < s.membership.roster.length
    · rw [← h, entry_of_ne_zero _ hz, setEntry_roster _ hz]
      simp [hi]
    · rw [entry_of_ne_zero _ hz, entry_of_ne_zero _ hz, setEntry_roster _ hz, List.set_eq_of_length_le (by omega)]

/-! ## What a cycle start leaves of the Roster (R58) -/

theorem fillPresence_roster (leaving : Bool) (s : State) : (fillPresence leaving s).membership.roster = s.membership.roster := by
  unfold fillPresence
  split <;> rfl

theorem presenceTurn_roster (s : State) : (presenceTurn s).membership.roster = s.membership.roster := by
  unfold presenceTurn
  split
  · rw [fillPresence_roster]; rfl
  · rfl

theorem presenceCycle_roster (s : State) : (presenceCycle s).membership.roster = s.membership.roster := by
  unfold presenceCycle
  split
  · rw [presenceTurn_roster]; rfl
  · rfl

theorem enterMember_roster (detail : Nat) (s : State) : (enterMember detail s).membership.roster = s.membership.roster := by
  have filled (m : Membership) : (joinTriggers (fillPresence false (raise .joined none (s.setMembership m).own detail
      (s.setMembership m)))).membership.roster = m.roster := by
    rw [(joinTriggers_changes _).membership, fillPresence_roster]
    rfl
  unfold enterMember
  dsimp only
  split
  · exact filled _
  · split
    · rw [(takeLead_changes _ _).membership]; exact filled _
    · exact filled _

theorem judgeListening_roster (s : State) : (judgeListening s).membership.roster = s.membership.roster := by
  unfold judgeListening
  split
  · split
    · exact enterMember_roster _ _
    · rfl
  · rfl

theorem depart_entry_other {s : State} {st other : Station} (detail : Nat) (ff : Bool) (h : st ≠ other) :
    (depart other detail ff s).entry st = s.entry st := by
  unfold depart
  dsimp only
  have absent (e : RosterEntry) : (raise .stationAbsent none other detail (s.setEntry other e)).entry st = s.entry st :=
    entry_setEntry_other e h
  split
  · rw [(cellsDeparture_changes _ _).entry, (slotsDeparture_changes _ _).entry, absent]
  · rw [(slotsDeparture_changes _ _).entry, (cellsDeparture_changes _ _).entry, absent]

theorem rosterCycle_entry_other {s : State} {st other : Station} (ff : Bool) (h : st ≠ other) :
    (rosterCycle other ff s).entry st = s.entry st := by
  unfold rosterCycle
  dsimp only
  split
  · split
    · rw [depart_entry_other _ _ h, entry_setEntry_other _ h]
    · exact entry_setEntry_other _ h
  · rfl

/-- The work of a cycle start that a taken mark makes leaves its sender's entry alone. -/
theorem doWork_entry_sender (st : Station) (ff : Bool) (s : State) (w : CycleWork) :
    (doWork (some st) ff s w).entry st = s.entry st := by
  cases w with
  | roster other =>
    show (if some st = some other then s else rosterCycle other ff s).entry st = s.entry st
    split
    · rfl
    · next h => exact rosterCycle_entry_other ff fun he => h (congrArg some he)
  | cells => exact (cellsCycle_changes s).entry st
  | slots => exact (slotsCycle_changes s).entry st
  | presence => exact entry_of_roster (presenceCycle_roster s) st

theorem foldl_doWork_entry_sender (st : Station) (ff : Bool) (works : List CycleWork) (s : State) :
    (works.foldl (doWork (some st) ff) s).entry st = s.entry st := by
  induction works generalizing s with
  | nil => rfl
  | cons w ws ih => rw [List.foldl_cons, ih, doWork_entry_sender]

theorem cycleEffects_entry_sender (mark : Option Station) (st : Station) (ties : Ties) (s : State) :
    (cycleEffects mark (some st) ties s).entry st = s.entry st := by
  have frozen : ∀ t : State, (match mark with
      | some st => if t.node = NodeState.member then freeze st t else t
      | none => t).entry st = t.entry st := fun t => by
    split
    · split
      · exact (freeze_changes _ _).entry st
      · rfl
    · rfl
  have tallied (t : State) : (if t.node = .listening then tally true t else t).entry st = t.entry st := by
    split <;> rfl
  have judged (t : State) : (if t.node = .listening then judgeListening (deliver ties.turns t) else t).entry st = t.entry st := by
    split
    · rw [entry_of_roster (judgeListening_roster _), (deliver_changes _ _).entry]
    · rfl
  unfold cycleEffects
  exact (judged _).trans ((foldl_doWork_entry_sender _ _ _ _).trans ((tallied _).trans (frozen s)))

theorem takenMark_entry_sender (st : Station) (n : CycleNo) (ties : Ties) (s : State) :
    (takenMark st n ties s).entry st = s.entry st := by
  unfold takenMark
  rw [cycleEffects_entry_sender, (meetMark_changes _ _).entry, (adopt_changes _ _ _).entry]

/-! ## Admission (R57, R60) -/

/-- What is passed on touches its sender's Roster entry no more. -/
theorem passOn_entry_sender (f : Frame) (ties : Ties) (s : State) : (passOn f ties s).entry f.station = s.entry f.station := by
  unfold passOn
  dsimp only
  split
  · rfl
  · split
    · rfl
    · exact takenMark_entry_sender _ _ _ _
  · split
    · exact (takePublication_changes _ _ _ _ _ _).entry _
    · rfl
  · split
    · exact (takeFetch_changes _ _).entry _
    · rfl

/-- A publication or a fetch request of a station that is not PRESENT reaches no block (R60). -/
theorem passOn_of_not_present {f : Frame} (ties : Ties) {s : State} (h : (s.entry f.station).state ≠ .present)
    (hk : f.body.kind = 2 ∨ f.body.kind = 3) : passOn f ties s = s := by
  unfold passOn
  split
  · rfl
  · next hb => simp [hb, FrameBody.kind] at hk
  · rw [if_neg h]
  · rw [if_neg h]

/-- A mark of a FOREIGN station reaches no block (R60). -/
theorem passOn_of_foreign {f : Frame} (ties : Ties) {s : State} (h : (s.entry f.station).state = .foreign)
    (hk : f.body.kind = 0) : passOn f ties s = s := by
  unfold passOn
  split
  · rfl
  · rw [if_pos h]
  · next hb => simp [hb, FrameBody.kind] at hk
  · next hb => simp [hb, FrameBody.kind] at hk

/-- Does the sender of a frame other than a presence return to silence 0: is it heard, and does its departure not stand? (R57, log 13) -/
def hears (f : Frame) (ties : Ties) (s : State) : Bool :=
  (s.entry f.station).heard && !(f.body.kind == 2 && ties.departureStands
    && (s.entry f.station).lastCycle s.loader.params.presenceInterval)

theorem updateRoster_of_not_presence {f : Frame} (ties : Ties) (s : State) (hk : f.body.kind ≠ 1) :
    updateRoster f ties s
      = if hears f ties s then s.setEntry f.station { s.entry f.station with silence := 0 } else s := by
  unfold updateRoster hears
  cases hb : f.body with
  | presence d g l e a => simp [hb, FrameBody.kind] at hk
  | mark n => simp [FrameBody.kind]
  | publication v t data => simp [FrameBody.kind]
  | fetch => simp [FrameBody.kind]

theorem updateRoster_changes_of_not_presence {f : Frame} (ties : Ties) (s : State) (hk : f.body.kind ≠ 1) :
    ChangesOnly [.membership] s (updateRoster f ties s) := by
  rw [updateRoster_of_not_presence ties s hk]
  split
  · exact setEntry_changes _ _ _
  · exact .refl s

theorem updateRoster_entry_state {f : Frame} (ties : Ties) (s : State) (hk : f.body.kind ≠ 1) :
    ((updateRoster f ties s).entry f.station).state = (s.entry f.station).state := by
  rw [updateRoster_of_not_presence ties s hk]
  split
  · exact entry_state_setEntry rfl
  · rfl

/-! ## FRAME_TAKEN (R15) -/

theorem exec_frameTaken {s : State} {view : FrameView} {f : Frame} (ties : Ties) (h : Live s) (hr : s.receives = true)
    (hf : view.frame? = some f) : exec (.frameTaken view ties) s = .next (deliver ties.turns (takeFrame f ties s)) := by
  simp [exec, execFrameTaken, event, h.inReset, hr, hf]

/-- The frame ended and counted by the Line Interface, before any other block sees it. -/
def frameCounted (s : State) : State := count .takenFrames 1 (endFrame 0 (acknowledge s))

theorem takeFrame_eq (f : Frame) (ties : Ties) (s : State) :
    takeFrame f ties s = countReception false recvFaultsAfterTake (admitFrame f ties (frameCounted s)) := by
  rw [takeFrame, standTake_eq, frameCounted]

theorem frameCounted_changes (s : State) : ChangesOnly [.line, .driver, .counters, .lineCounters, .notices] s (frameCounted s) :=
  (((acknowledge_changes _).mono (by decide)).after (endFrame_changes _ _)).after (count_changes _ _ _)

theorem frameCounted_line (s : State) : (frameCounted s).line = { (endFrame 0 s).line with acked := s.mayDrive } := count_line _ _ _

theorem frameCounted_counters (s : State) : (frameCounted s).counters = bump 1 1 s.counters := count_counters _ _ _

theorem admitFrame_of_other {f : Frame} (ties : Ties) {s : State} (h : f.station ≠ s.own) :
    admitFrame f ties s = passOn f ties (updateRoster f ties s) := if_neg h

/-- A frame of another station changes neither the line nor the Standing Unit nor the counters of the line before it is counted there. -/
theorem admitFrame_changes_of_other {f : Frame} (ties : Ties) {s : State} (h : f.station ≠ s.own) :
    ChangesOnly [.snapshots, .counters, .membership, .node, .cycle, .clock, .lead, .cells, .slots, .sendQueue, .notices, .posted] s
      (admitFrame f ties s) := by
  rw [admitFrame_of_other ties h]
  exact ((updateRoster_changes _ _ _).mono (by decide)).after (passOn_changes _ _ _)

/-- A frame that no block is given changes what the end of a reception changes, and nothing else. -/
theorem takeFrame_changes_of_not_passed {f : Frame} (ties : Ties) {s : State} (h : f.station ≠ s.own) (hk : f.body.kind ≠ 1)
    (hp : passOn f ties (updateRoster f ties (frameCounted s)) = updateRoster f ties (frameCounted s)) :
    ChangesOnly Block.reception s (deliver ties.turns (takeFrame f ties s)) := by
  have own : (frameCounted s).own = s.own := congrArg Params.station (frameCounted_changes s).params
  rw [takeFrame_eq, admitFrame_of_other ties (own ▸ h), hp]
  exact ((((frameCounted_changes s).mono (by decide)).after (updateRoster_changes_of_not_presence ties _ hk)).after
    (countReception_changes _ _ _)).after (deliver_changes _ _)

/-- The sender's entry after a frame taken other than a presence (R57; log 13). -/
theorem takeFrame_entry_sender {f : Frame} (ties : Ties) {s : State} (h : f.station ≠ s.own) (hk : f.body.kind ≠ 1) :
    (takeFrame f ties s).entry f.station
      = ((if hears f ties s then s.setEntry f.station { s.entry f.station with silence := 0 } else s)).entry f.station := by
  have before := frameCounted_changes s
  have own : (frameCounted s).own = s.own := congrArg Params.station before.params
  have heard : hears f ties (frameCounted s) = hears f ties s := by unfold hears; rw [before.entry, before.params]
  rw [takeFrame_eq, admitFrame_of_other ties (own ▸ h), (countReception_changes _ _ _).entry, passOn_entry_sender,
    updateRoster_of_not_presence ties _ hk, heard, before.entry]
  split
  · exact entry_of_roster (by simp [State.setEntry, before.membership]) _
  · exact before.entry _

theorem hears_iff (f : Frame) (ties : Ties) (s : State) :
    hears f ties s = true ↔ (s.entry f.station).heard = true ∧ ¬(f.body.kind = 2 ∧ ties.departureStands = true
      ∧ (s.entry f.station).state = .present ∧ (s.entry f.station).silence = 3 * s.loader.params.presenceInterval) := by
  simp only [hears, RosterEntry.lastCycle, Bool.and_eq_true, Bool.not_eq_true', Bool.eq_false_iff, ne_eq, beq_iff_eq, and_assoc]

/-- Settles O35: the line and the Standing Unit see the end of the reception; the other blocks see what admission passes on. -/
theorem framesTakenAreCountedAndAdmitted : Obligations.FramesTakenAreCountedAndAdmitted := by
  intro s view ties f live receives taken other _ _
  have before := frameCounted_changes s
  have own : (frameCounted s).own = s.own := congrArg Params.station before.params
  have admitted := admitFrame_changes_of_other ties (s := frameCounted s) (own ▸ other)
  have unit : (admitFrame f ties (frameCounted s)).standingUnit = s.standingUnit := admitted.standing.trans before.standing
  have standing : (deliver ties.turns (takeFrame f ties s)).standingUnit
      = (countReception false recvFaultsAfterTake (admitFrame f ties (frameCounted s))).standingUnit := by
    rw [deliver_standingUnit, takeFrame_eq]
  have line : (deliver ties.turns (takeFrame f ties s)).line = { (endFrame 0 s).line with acked := s.mayDrive } := by
    rw [deliver_line, takeFrame_eq, countReception_line (by rw [admitted.line, frameCounted_line]; rfl)
      (by rw [admitted.line, frameCounted_line]; rfl), admitted.line, frameCounted_line]
  have state (hk : f.body.kind ≠ 1) : ((updateRoster f ties (frameCounted s)).entry f.station).state = (s.entry f.station).state := by
    rw [updateRoster_entry_state ties _ hk, before.entry]
  refine ⟨_, exec_frameTaken ties live receives taken, ?_⟩
  rw [line, standing]
  refine ⟨rfl, rfl, ?_, ?_, fun short => ?_, fun full => ?_, ?_, fun absent kind => ?_, fun foreign kind => ?_, fun shape heard kind => ?_⟩
  · rw [countReception_recvFaults, unit]; rfl
  · rw [countReception_sendFaults, unit]
  · exact unit ▸ countReception_window_open (by rwa [unit])
  · exact unit ▸ (countReception_window_judged (by rwa [unit])).congr unit standing.symm
  · rw [deliver_lineCounters, takeFrame_eq, (countReception_changes _ _ _).counters, admitted.lineCounters, frameCounted_counters]
    rfl
  · have notPresence : f.body.kind ≠ 1 := by rcases kind with h | h <;> simp [h]
    exact takeFrame_changes_of_not_passed ties other notPresence (passOn_of_not_present ties (by rwa [state notPresence]) kind)
  · have notPresence : f.body.kind ≠ 1 := by simp [kind]
    exact takeFrame_changes_of_not_passed ties other notPresence (passOn_of_foreign ties (by rwa [state notPresence]) kind)
  · rw [(deliver_changes _ _).entry, takeFrame_entry_sender ties other kind]
    refine ⟨fun free => ?_, fun publication stands present last => ?_⟩
    · have hears : hears f ties s = true := (hears_iff f ties s).mpr ⟨heard, fun ⟨publication, stands, present, last⟩ => by simp_all⟩
      rw [if_pos hears, entry_setEntry_same _ shape.2.1 (station_ne_zero_of_heard heard)]
    · have falls : hears f ties s = false :=
        Bool.eq_false_iff.mpr fun hears => ((hears_iff f ties s).mp hears).2 ⟨publication, stands, present, last⟩
      rw [falls]
      rfl

end Sys2Proof.Machine
end

section
/-! SUPPORT. Entry to CUT_OFF, and the CLASH that the Send Queue is told at an over-run (R50, R115, R119, R123, R136). -/

set_option Elab.async false

namespace Sys2Proof.Machine

/-! ## Fetch slots in use (R126, R136) -/

theorem FetchSlot.inUse_eq_false_iff (f : FetchSlot) : f.inUse = false ↔ f.state = .free := by simp [FetchSlot.inUse]

theorem slot_setSlot_other {s : State} {i j : Nat} (f : FetchSlot) (h : j ≠ i) : (s.setSlot j f).slot i = s.slot i := by
  simp [State.slot, State.setSlot, List.getElem?_set_ne h]

/-- A freed slot is FREE, whether or not the node has a slot of that number. -/
theorem slot_freeSlot_same (s : State) (i : Nat) : (freeSlot i s).slot i = FetchSlot.free := by
  by_cases h : i < s.slots.length <;> simp [State.slot, freeSlot, State.setSlot, h]

theorem slot_unused_of_all {s : State} (h : ∀ f ∈ s.slots, f.inUse = false) (i : Nat) : (s.slot i).inUse = false := by
  by_cases hi : i < s.slots.length
  · simpa [State.slot, hi] using h _ (List.getElem_mem hi)
  · simp [State.slot, hi, FetchSlot.free, FetchSlot.inUse]

theorem all_unused_of_slot {s : State} (h : ∀ i < s.slots.length, (s.slot i).inUse = false) : ∀ f ∈ s.slots, f.inUse = false := by
  intro f hf
  obtain ⟨i, hi, rfl⟩ := List.getElem_of_mem hf
  simpa [State.slot, hi] using h i hi

/-- A slot abandoned, if it is in use (R136). -/
def abandonSlot (s : State) (i : Nat) : State :=
  if (s.slot i).inUse then failSlot i (s.cell (s.slot i).cell).owner 2 s else s

theorem abandonSlots_eq (s : State) : abandonSlots s = (List.range Config.fetchSlots).foldl abandonSlot s := rfl

theorem abandonSlot_slot (s : State) (i j : Nat) :
    ((abandonSlot s j).slot i).inUse = ((s.slot i).inUse && decide (i ≠ j)) := by
  unfold abandonSlot
  by_cases hij : i = j
  · subst hij
    split
    · have freed : (failSlot i (s.cell (s.slot i).cell).owner 2 s).slot i = FetchSlot.free := slot_freeSlot_same s i
      rw [freed]
      simp [FetchSlot.free, FetchSlot.inUse]
    · simp_all
  · split
    · have kept : (failSlot j (s.cell (s.slot j).cell).owner 2 s).slot i = s.slot i := slot_setSlot_other _ (Ne.symm hij)
      simp [kept, hij]
    · simp [hij]

theorem foldl_abandonSlot_slot (is : List Nat) (s : State) (i : Nat) (h : i ∈ is ∨ (s.slot i).inUse = false) :
    ((is.foldl abandonSlot s).slot i).inUse = false := by
  induction is generalizing s with
  | nil => simpa using h
  | cons j js ih =>
    rw [List.foldl_cons]
    refine ih _ ?_
    rw [abandonSlot_slot]
    grind

theorem abandonSlot_length (s : State) (i : Nat) : (abandonSlot s i).slots.length = s.slots.length := by
  unfold abandonSlot
  split
  · simp [failSlot, raise, freeSlot, State.setSlot]
  · rfl

theorem abandonSlots_length (s : State) : (abandonSlots s).slots.length = s.slots.length := by
  rw [abandonSlots_eq]
  generalize List.range Config.fetchSlots = is
  induction is generalizing s with
  | nil => rfl
  | cons i is ih => rw [List.foldl_cons, ih, abandonSlot_length]

theorem abandonSlots_unused {s : State} (h : s.slots.length = Config.fetchSlots) : ∀ f ∈ (abandonSlots s).slots, f.inUse = false := by
  refine all_unused_of_slot fun i hi => ?_
  rw [abandonSlots_length, h] at hi
  exact foldl_abandonSlot_slot _ s i (.inl (List.mem_range.mpr hi))

/-! ## Entry to CUT_OFF (R50, R123, R136) -/

theorem dropLead_cycle (detail : Nat) (s : State) : (dropLead detail s).cycle
    = { s.cycle with lead := false, takeover := none, mark := if s.cycle.mark = .waiting then .empty else s.cycle.mark } := by
  unfold dropLead
  dsimp only
  split <;> rfl

/-- The node CUT_OFF without the lead, its slots abandoned, its queue still to be flushed. -/
def cutOffAbandoned (s : State) : State := abandonSlots (dropLead 2 (s.setNode .cutOff))

theorem enterCutOff_eq (s : State) : enterCutOff s
    = releaseDriver (flushAll (raise .cutOff none 0 (cutOffAbandoned s).sendQueue.entries.length (cutOffAbandoned s))) := by
  unfold enterCutOff cutOffAbandoned
  dsimp only

theorem cutOffAbandoned_changes (s : State) :
    ChangesOnly [.membership, .node, .cycle, .lead, .slots, .notices] s (cutOffAbandoned s) :=
  (((setNode_changes _ _).mono (by decide)).after (dropLead_changes _ _)).after (abandonSlots_changes _)

theorem cutOffAbandoned_node (s : State) : (cutOffAbandoned s).node = .cutOff := by
  rw [cutOffAbandoned, (abandonSlots_changes _).node, (dropLead_changes _ _).node]
  rfl

theorem cutOffAbandoned_cycle (s : State) : (cutOffAbandoned s).cycle
    = { s.cycle with lead := false, takeover := none, mark := if s.cycle.mark = .waiting then .empty else s.cycle.mark } := by
  rw [cutOffAbandoned, (abandonSlots_changes _).cycle, dropLead_cycle]
  rfl

theorem cutOffAbandoned_unused {s : State} (h : s.slots.length = Config.fetchSlots) : ∀ f ∈ (cutOffAbandoned s).slots, f.inUse = false :=
  abandonSlots_unused (by rw [(dropLead_changes _ _).slots]; exact h)

theorem enterCutOff_line {s : State} (hd : s.line.driver = .released) (hv : s.line.vetoDue = none) : (enterCutOff s).line = s.line := by
  have line := (cutOffAbandoned_changes s).line
  rw [enterCutOff_eq]
  generalize cutOffAbandoned s = a at line ⊢
  have flushed : (flushAll (raise .cutOff none 0 a.sendQueue.entries.length a)).line = s.line :=
    (flushAll_changes _).line.trans ((raise_changes _ _ _ _ _).line.trans line)
  rw [releaseDriver_line] <;> rw [flushed] <;> assumption

theorem enterCutOff_standingUnit (s : State) : (enterCutOff s).standingUnit = s.standingUnit := (enterCutOff_changes s).standing

/-- The flush after the slots are abandoned completes entry to CUT_OFF. -/
theorem enteredCutOff_of_abandoned {a : State} (node : a.node = .cutOff) (lead : a.cycle.lead = false) (takeover : a.cycle.takeover = none)
    (unused : ∀ f ∈ a.slots, f.inUse = false) (silent : a.standingUnit.standing = .silent) (quiet : a.standingUnit.quiet = 0)
    (waiting : Nat) : EnteredCutOff (releaseDriver (flushAll (raise .cutOff none 0 waiting a))) := by
  have flushed : ChangesOnly [.notices, .sendQueue, .flight, .cells, .cycle, .membership, .line, .driver] a
      (releaseDriver (flushAll (raise .cutOff none 0 waiting a))) :=
    (((raise_changes _ _ _ _ _).mono (by decide)).after (flushAll_changes _)).after (releaseDriver_changes _)
  have cycle : (releaseDriver (flushAll (raise .cutOff none 0 waiting a))).cycle = { a.cycle with mark := .empty } := rfl
  have cells : (releaseDriver (flushAll (raise .cutOff none 0 waiting a))).cells
      = a.cells.map fun r => { r with changed := false } := rfl
  have line : (releaseDriver (flushAll (raise .cutOff none 0 waiting a))).line
      = { a.line with driver := .released, vetoDue := none } := rfl
  have queue : (releaseDriver (flushAll (raise .cutOff none 0 waiting a))).sendQueue
      = { a.sendQueue with entries := [], deferred := [], inFlight := none } := rfl
  have presence : (releaseDriver (flushAll (raise .cutOff none 0 waiting a))).membership.presence = PresenceEntry.empty := rfl
  unfold EnteredCutOff
  rw [flushed.node, flushed.standing, flushed.slots, cycle, cells, line, queue, presence]
  refine ⟨node, silent, quiet, rfl, rfl, rfl, rfl, rfl, lead, takeover, rfl, rfl, unused, fun r hr => ?_⟩
  obtain ⟨r', -, rfl⟩ := List.mem_map.mp hr
  rfl

theorem enterCutOff_enteredCutOff {s : State} (silent : s.standingUnit.standing = .silent) (quiet : s.standingUnit.quiet = 0)
    (slots : s.slots.length = Config.fetchSlots) : EnteredCutOff (enterCutOff s) := by
  have cycle := cutOffAbandoned_cycle s
  have unit := (cutOffAbandoned_changes s).standing
  rw [enterCutOff_eq]
  exact enteredCutOff_of_abandoned (cutOffAbandoned_node s) (by rw [cycle]) (by rw [cycle]) (cutOffAbandoned_unused slots)
    (by rw [unit, silent]) (by rw [unit, quiet]) _

/-! ## A CLASH at a node that is SILENT (R115, R119, R123) -/

theorem setSlot_length (s : State) (i : Nat) (f : FetchSlot) : (s.setSlot i f).slots.length = s.slots.length := List.length_set

theorem slotAwaits_length (c : CellNo) (s : State) : (slotAwaits c s).slots.length = s.slots.length := by
  unfold slotAwaits
  split
  · split
    · exact setSlot_length _ _ _
    · rfl
  · rfl

theorem slotCancelled_length (c : CellNo) (s : State) : (slotCancelled c s).slots.length = s.slots.length := by
  unfold slotCancelled
  split
  · split
    · exact setSlot_length _ _ _
    · rfl
  · rfl

theorem refill_length (s : State) : (refill s).slots.length = s.slots.length := by rw [(refill_changes s).slots]

theorem fetchEnded_length (c : CellNo) (s : State) : (fetchEnded c s).slots.length = s.slots.length := by
  rw [fetchEnded, refill_length, slotAwaits_length]
  rfl

theorem entryCancelled_length (e : Entry) (o : OutcomeKind) (s : State) : (entryCancelled e o s).slots.length = s.slots.length := by
  unfold entryCancelled
  dsimp only
  rw [refill_length]
  split
  · rw [slotCancelled_length]; rfl
  · rfl

theorem entryRetry_length (e : Entry) (o : OutcomeKind) (s : State) : (entryRetry e o s).slots.length = s.slots.length := by
  unfold entryRetry
  dsimp only
  split
  · rw [refill_length]
    split
    · rw [slotAwaits_length]; rfl
    · rfl
  · rfl

theorem entryNotSent_length (e : Entry) (o : OutcomeKind) (s : State) : (entryNotSent e o s).slots.length = s.slots.length := by
  have cleared : (if e.kind = .publication then clearChangedOf e.cell s else s).slots.length = s.slots.length := by split <;> rfl
  unfold entryNotSent
  dsimp only
  generalize (if e.kind = .publication then clearChangedOf e.cell s else s) = t at cleared ⊢
  rw [← cleared]
  repeat' split
  · exact entryCancelled_length _ _ _
  · rfl
  · rfl
  · exact fetchEnded_length _ _
  · exact entryRetry_length _ _ _

theorem entryOutcome_clash_length (c : CellNo) (image : Frame) (s : State) :
    (entryOutcome c image .clash s).slots.length = s.slots.length := by
  unfold entryOutcome
  split
  · rfl
  · exact entryNotSent_length _ _ _

theorem markOutcome_clash_changes (image : Frame) (ties : Ties) (s : State) :
    ChangesOnly [.cycle] s (markOutcome .clash image ties s) :=
  setCycle_keeps_clock_and_lead _ _ (by simp [Block.same]) rfl

/-- The presence of a SILENT node does not enter DETACHED (R48, R61). -/
theorem presenceOutcome_clash_changes {s : State} (silent : s.standingUnit.standing = .silent) :
    ChangesOnly [.membership, .sendQueue] s (presenceOutcome .clash s) := by
  have entry : ChangesOnly [.membership, .sendQueue] s (presenceEntryAfter .clash s) :=
    (presenceEntryAfter_changes _ _).mono (by decide)
  unfold presenceOutcome
  dsimp only
  split
  · exact entry
  · split
    · exact ((emptyPresence_changes _).mono (by decide)).after (fillPresence_changes _ _)
    · rw [if_neg fun detaches => detaches.2.2 (entry.standing ▸ silent)]
      exact entry

theorem handleOutcome_clash_changes (ties : Ties) {s : State} (silent : s.standingUnit.standing = .silent) :
    ChangesOnly [.membership, .cycle, .cells, .slots, .sendQueue, .flight, .notices] s (handleOutcome .clash ties s) := by
  unfold handleOutcome
  split
  · exact .refl s
  · dsimp only
    have landed (q : SendQueue) :
        ChangesOnly [.membership, .cycle, .cells, .slots, .sendQueue, .flight, .notices] s (s.setSendQueue q) :=
      (setSendQueue_changes _ _).mono (by decide)
    split
    · exact (landed _).after (markOutcome_clash_changes _ _ _)
    · exact (landed _).after (presenceOutcome_clash_changes silent)
    · exact (landed _).after (entryOutcome_changes _ _ _ _)

theorem handleOutcome_clash_length (ties : Ties) {s : State} (silent : s.standingUnit.standing = .silent) :
    (handleOutcome .clash ties s).slots.length = s.slots.length := by
  unfold handleOutcome
  split
  · rfl
  · dsimp only
    split
    · rw [(markOutcome_clash_changes _ _ _).slots]; rfl
    · exact congrArg List.length (ChangesOnly.slots (s := s.setSendQueue { s.sendQueue with inFlight := none })
        (presenceOutcome_clash_changes silent))
    · exact entryOutcome_clash_length _ _ _

/-- The Send Queue told CLASH before the fall to SILENT, or flushed by the fall first (R123). -/
def toldClash (ties : Ties) (s : State) : State := if ties.flushFirst then s else handleOutcome .clash ties s

theorem toldClash_changes (ties : Ties) {s : State} (silent : s.standingUnit.standing = .silent) :
    ChangesOnly [.membership, .cycle, .cells, .slots, .sendQueue, .flight, .notices] s (toldClash ties s) := by
  unfold toldClash
  split
  · exact .refl s
  · exact handleOutcome_clash_changes ties silent

theorem toldClash_length (ties : Ties) {s : State} (silent : s.standingUnit.standing = .silent) :
    (toldClash ties s).slots.length = s.slots.length := by
  unfold toldClash
  split
  · rfl
  · exact handleOutcome_clash_length ties silent

theorem fallSilent_of_silent {s : State} (silent : s.standingUnit.standing = .silent) (node : s.node = .member ∨ s.node = .leaving) :
    fallSilent s = enterCutOff s := if_pos ⟨silent, node⟩

theorem handleOutcome_of_landed (o : OutcomeKind) (ties : Ties) {s : State} (h : s.sendQueue.inFlight = none) :
    handleOutcome o ties s = s := by
  unfold handleOutcome
  rw [h]

theorem outcomeAndFall_clash_eq (ties : Ties) {s : State} (silent : s.standingUnit.standing = .silent)
    (node : s.node = .member ∨ s.node = .leaving) : outcomeAndFall .clash ties s = enterCutOff (toldClash ties s) := by
  have told := handleOutcome_clash_changes ties silent
  unfold outcomeAndFall toldClash
  split
  · rw [fallSilent_of_silent silent node]
    exact handleOutcome_of_landed _ _ rfl
  · exact fallSilent_of_silent (told.standing ▸ silent) (by rwa [told.node])

end Sys2Proof.Machine
end

section
/-! SUPPORT. The over-run of a sender, and the time that passes while a frame is sent (R20, R29, R30). -/

set_option Elab.async false

namespace Sys2Proof.Machine

/-! ## The over-run at the Line Interface and the Standing Unit (R18, R19, R20, R30) -/

/-- A run of dominant symbols of 64 at the over-run has made the line STUCK (R19). -/
def overrunSticks (run : Nat) (s : State) : State := if min run 64 = 64 ∧ s.line.lineState ≠ .stuck then stick s else s

/-- The over-run counted as a send fault, before the Send Queue is told. -/
def overrunCounted (run : Nat) (s : State) : State :=
  standTimeout (count .sendFaults 1 (suspend (endFrame (min run 64) (overrunSticks run s))))

theorem driverTimeout_eq (report : Overrun) (s : State) :
    driverTimeout report s = outcomeAndFall .clash report.ties (overrunCounted report.view.dominantRun s) := rfl

theorem overrunSticks_changes (run : Nat) (s : State) : ChangesOnly [.line, .standing, .notices] s (overrunSticks run s) := by
  unfold overrunSticks
  split
  · exact stick_changes s
  · exact .refl s

theorem overrunSticks_lineState (run : Nat) (s : State) :
    (overrunSticks run s).line.lineState = if 64 ≤ run then .stuck else s.line.lineState := by
  unfold overrunSticks
  by_cases h : 64 ≤ run
  · rw [if_pos h]
    by_cases stuck : s.line.lineState = .stuck
    · rw [if_neg fun both => both.2 stuck, stuck]
    · rw [if_pos ⟨Nat.min_eq_right h, stuck⟩]
      rfl
  · have short : min run 64 ≠ 64 := by omega
    rw [if_neg fun both => short both.1, if_neg h]

theorem overrunSticks_standingUnit (run : Nat) (s : State) : ∃ seen,
    (overrunSticks run s).standingUnit = { s.standingUnit with lineStuckSeen := seen } := by
  unfold overrunSticks
  split
  · exact ⟨true, rfl⟩
  · exact ⟨s.standingUnit.lineStuckSeen, rfl⟩

theorem standTimeout_line {s : State} (hd : s.line.driver = .released) (hv : s.line.vetoDue = none) :
    (standTimeout s).line = s.line := by
  unfold standTimeout
  dsimp only
  split
  · exact refit_line hd hv
  · exact refit_line hd hv

theorem standTimeout_standingUnit {s : State} (loud : s.standingUnit.standing ≠ .silent) (below : s.standingUnit.sendFaults < 240) :
    (standTimeout s).standingUnit = { s.standingUnit with sendFaults := 240, standing := .silent, quiet := 0 } := by
  have silent : standingOf 240 s.standingUnit.recvFaults = .silent := rfl
  unfold standTimeout
  dsimp only
  rw [if_pos below, refit_standingUnit, State.setStandingUnit_standingUnit, StandingUnit.refitted]
  dsimp only
  rw [silent, if_neg (not_or.mpr ⟨loud, Ne.symm loud⟩), if_pos rfl]

theorem overrunCounted_changes (run : Nat) (s : State) :
    ChangesOnly [.line, .driver, .standing, .level, .counters, .lineCounters, .notices] s (overrunCounted run s) :=
  (((((overrunSticks_changes _ _).mono (by decide)).after (endFrame_changes _ _)).after (suspend_changes _)).after
    (count_changes _ _ _)).after (standTimeout_changes _)

theorem overrunCounted_line (run : Nat) (s : State) :
    (overrunCounted run s).line = { (endFrame (min run 64) (overrunSticks run s)).line with suspension := true } := by
  have counted : (count .sendFaults 1 (suspend (endFrame (min run 64) (overrunSticks run s)))).line
      = { (endFrame (min run 64) (overrunSticks run s)).line with suspension := true } := count_line _ _ _
  rw [overrunCounted, standTimeout_line (by rw [counted]; rfl) (by rw [counted]; rfl), counted]

theorem overrunCounted_counters (run : Nat) (s : State) : (overrunCounted run s).counters = bump 2 1 s.counters := by
  rw [overrunCounted, (standTimeout_changes _).counters, count_counters]
  exact congrArg (bump 2 1) (overrunSticks_changes run s).counters

theorem overrunCounted_standingUnit {s : State} (run : Nat) (loud : s.standingUnit.standing ≠ .silent)
    (below : s.standingUnit.sendFaults < 240) : ∃ seen, (overrunCounted run s).standingUnit
      = { s.standingUnit with sendFaults := 240, standing := .silent, quiet := 0, lineStuckSeen := seen } := by
  obtain ⟨seen, stuck⟩ := overrunSticks_standingUnit run s
  have counted : (count .sendFaults 1 (suspend (endFrame (min run 64) (overrunSticks run s)))).standingUnit
      = { s.standingUnit with lineStuckSeen := seen } := (count_standingUnit _ _ _).trans stuck
  refine ⟨seen, ?_⟩
  rw [overrunCounted, standTimeout_standingUnit (by rw [counted]; exact loud) (by rw [counted]; exact below), counted]

/-! ## The whole over-run (R20, R29, R30, R50) -/

/-- A node that can send a frame: MEMBER or LEAVING, its send fault count short of SILENT. -/
structure Sender (s : State) : Prop where
  node : s.node = .member ∨ s.node = .leaving
  loud : s.standingUnit.standing ≠ .silent
  below : s.standingUnit.sendFaults < 240
  slots : s.slots.length = Config.fetchSlots

theorem Sender.of_sound {s : State} (node : s.node = .member ∨ s.node = .leaving) (shape : ShapeSound s) (standing : StandingSound s) :
    Sender s := by
  have loud : s.standingUnit.standing ≠ .silent := fun silent => by
    rcases standing.2 silent with h | h <;> simp [h] at node
  refine ⟨node, loud, Nat.lt_of_not_le fun above => loud ((standing.1 loud).trans ?_), shape.2.2⟩
  rw [standingOf, if_pos above]

/-- The over-run of a sender: the Send Queue told CLASH or not, then entry to CUT_OFF. -/
theorem driverTimeout_of_sender {s : State} (report : Overrun) (h : Sender s) :
    ∃ seen, (overrunCounted report.view.dominantRun s).standingUnit
        = { s.standingUnit with sendFaults := 240, standing := .silent, quiet := 0, lineStuckSeen := seen }
      ∧ driverTimeout report s = enterCutOff (toldClash report.ties (overrunCounted report.view.dominantRun s)) := by
  obtain ⟨seen, unit⟩ := overrunCounted_standingUnit report.view.dominantRun h.loud h.below
  refine ⟨seen, unit, ?_⟩
  rw [driverTimeout_eq, outcomeAndFall_clash_eq]
  · rw [unit]
  · rw [(overrunCounted_changes _ _).node]; exact h.node

theorem toldClash_overrun_changes {s : State} (report : Overrun) (h : Sender s) :
    ChangesOnly [.line, .driver, .standing, .level, .counters, .lineCounters, .membership, .cycle, .cells, .sendQueue, .flight, .slots,
      .notices] s (toldClash report.ties (overrunCounted report.view.dominantRun s)) := by
  obtain ⟨seen, unit, -⟩ := driverTimeout_of_sender report h
  exact ((overrunCounted_changes _ _).mono (by decide)).after (toldClash_changes _ (by rw [unit]))

theorem driverTimeout_changes_of_sender {s : State} (report : Overrun) (h : Sender s) :
    ChangesOnly [.line, .driver, .standing, .level, .counters, .lineCounters, .membership, .node, .cycle, .lead, .cells, .sendQueue,
      .flight, .slots, .notices] s (driverTimeout report s) := by
  obtain ⟨seen, unit, eq⟩ := driverTimeout_of_sender report h
  rw [eq]
  exact ((toldClash_overrun_changes report h).mono (by decide)).after (enterCutOff_changes _)

theorem driverTimeout_standingUnit {s : State} (report : Overrun) (h : Sender s) : ∃ seen, (driverTimeout report s).standingUnit
    = { s.standingUnit with sendFaults := 240, standing := .silent, quiet := 0, lineStuckSeen := seen } := by
  obtain ⟨seen, unit, eq⟩ := driverTimeout_of_sender report h
  refine ⟨seen, ?_⟩
  rw [eq, enterCutOff_standingUnit, (toldClash_changes _ (by rw [unit])).standing, unit]

theorem driverTimeout_line {s : State} (report : Overrun) (h : Sender s) : (driverTimeout report s).line
    = { (endFrame (min report.view.dominantRun 64) (overrunSticks report.view.dominantRun s)).line with suspension := true } := by
  obtain ⟨seen, unit, eq⟩ := driverTimeout_of_sender report h
  have line : (toldClash report.ties (overrunCounted report.view.dominantRun s)).line
      = { (endFrame (min report.view.dominantRun 64) (overrunSticks report.view.dominantRun s)).line with suspension := true } := by
    rw [(toldClash_changes _ (by rw [unit])).line, overrunCounted_line]
  rw [eq, enterCutOff_line (by rw [line]; rfl) (by rw [line]; rfl), line]

theorem driverTimeout_counters {s : State} (report : Overrun) (h : Sender s) :
    (driverTimeout report s).counters = bump 2 1 s.counters := by
  obtain ⟨seen, unit, eq⟩ := driverTimeout_of_sender report h
  rw [eq, (enterCutOff_changes _).counters, (toldClash_changes _ (by rw [unit])).counters, overrunCounted_counters]

theorem driverTimeout_enteredCutOff {s : State} (report : Overrun) (h : Sender s) : EnteredCutOff (driverTimeout report s) := by
  obtain ⟨seen, unit, eq⟩ := driverTimeout_of_sender report h
  have told := toldClash_changes report.ties (s := overrunCounted report.view.dominantRun s) (by rw [unit])
  rw [eq]
  refine enterCutOff_enteredCutOff ?_ ?_ ?_
  · rw [told.standing, unit]
  · rw [told.standing, unit]
  · rw [toldClash_length _ (by rw [unit]), (overrunCounted_changes _ _).slots, h.slots]

/-! ## Time while a frame is sent (R20; log 4) -/

/-- Time passes while a frame is sent and no veto is due: at the line the over-run check goes on, and a veto of an earlier frame. -/
theorem advance_line_of_sending (units : Nat) {s : State} (on : s.onLine = true) (sending : s.line.track = .sending)
    (due : s.line.vetoDue = none) : ∃ driver, (advance units s).line = { s.line with elapsed := s.line.elapsed + units, driver := driver } := by
  have inside : s.line.outside = false := by simp [LineInterface.outside, sending]
  have symbols : passSymbols units s = s.setLine { s.line with elapsed := s.line.elapsed + units } := by simp [passSymbols, inside]
  rw [advance, if_pos on, symbols, passVeto]
  simp only [State.setLine_line, due, driveVeto, State.setCycle_line]
  split
  · exact ⟨_, rfl⟩
  · exact ⟨_, rfl⟩
  · exact ⟨_, rfl⟩

theorem advance_changes_of_undue (units : Nat) {s : State} (due : s.line.vetoDue = none) :
    ChangesOnly [.line, .driver, .cycle, .clock] s (advance units s) := by
  have undue : (passSymbols units s).line.vetoDue = none := due
  have passed : ChangesOnly [.line, .driver] s (passVeto units (passSymbols units s)) := by
    rw [passVeto, undue]
    exact ((passSymbols_changes _ _).mono (by decide)).after (driveVeto_changes _ _)
  unfold advance
  split
  · exact (passed.mono (by decide)).trans fun b => by cases b <;> simp [Block.same, passed.cycle]
  · exact .refl s

theorem advance_cycle (units : Nat) {s : State} (on : s.onLine = true) : (advance units s).cycle = { s.cycle with
    cycleTimer := s.cycle.cycleTimer + units
    markTimer := s.cycle.markTimer + units
    takeover := s.cycle.takeover.map (· + units) } := by
  rw [advance, if_pos on]
  rfl

end Sys2Proof.Machine
end

section
/-! SUPPORT. DRIVER_TIMEOUT: what an over-run leaves stands as time goes on, and when the over-run check acts (R20; logs 4 and 35). -/

set_option Elab.async false

namespace Sys2Proof.Machine

/-! ## What a node CUT_OFF by an over-run keeps as time passes (R50) -/

/-- Entered CUT_OFF by an over-run: `EnteredCutOff` field by field, the send fault count at 240, no frame tracked. -/
structure OverrunSettled (t : State) : Prop where
  node : t.membership.node = .cutOff
  silent : t.standingUnit.standing = .silent
  quiet : t.standingUnit.quiet = 0
  sendFaults : t.standingUnit.sendFaults = 240
  driver : t.line.driver = .released
  due : t.line.vetoDue = none
  track : t.line.track = .none
  entries : t.sendQueue.entries = []
  deferred : t.sendQueue.deferred = []
  landed : t.sendQueue.inFlight = none
  lead : t.cycle.lead = false
  takeover : t.cycle.takeover = none
  mark : t.cycle.mark = .empty
  presence : t.membership.presence = ⟨false, false, 0, 0⟩
  unused : ∀ f ∈ t.slots, f.inUse = false
  unchanged : ∀ r ∈ t.cells, r.changed = false

namespace OverrunSettled

variable {s : State}

theorem of_enteredCutOff (h : EnteredCutOff s) (sendFaults : s.standingUnit.sendFaults = 240) (track : s.line.track = .none) :
    OverrunSettled s := by
  obtain ⟨node, silent, quiet, driver, due, entries, deferred, landed, lead, takeover, mark, presence, unused, unchanged⟩ := h
  exact { node, silent, quiet, sendFaults, driver, due, track, entries, deferred, landed, lead, takeover, mark, presence, unused, unchanged }

theorem enteredCutOff (h : OverrunSettled s) : EnteredCutOff s :=
  ⟨h.node, h.silent, h.quiet, h.driver, h.due, h.entries, h.deferred, h.landed, h.lead, h.takeover, h.mark, h.presence, h.unused,
    h.unchanged⟩

theorem node_eq (h : OverrunSettled s) : s.node = .cutOff := h.node

/-- Notices, counters and snapshots are no part of it. -/
theorem of_changes {t : State} {ps : List Block} (h : OverrunSettled s) (c : ChangesOnly ps s t)
    (hp : ∀ b ∈ ps, b ∈ [Block.counters, .lineCounters, .notices, .posted, .snapshots] := by decide) : OverrunSettled t := by
  have c := c.mono hp
  exact {
    node := by rw [c.membership]; exact h.node
    silent := by rw [c.standing]; exact h.silent
    quiet := by rw [c.standing]; exact h.quiet
    sendFaults := by rw [c.standing]; exact h.sendFaults
    driver := by rw [c.line]; exact h.driver
    due := by rw [c.line]; exact h.due
    track := by rw [c.line]; exact h.track
    entries := by rw [c.sendQueue]; exact h.entries
    deferred := by rw [c.sendQueue]; exact h.deferred
    landed := by rw [c.sendQueue]; exact h.landed
    lead := by rw [c.cycle]; exact h.lead
    takeover := by rw [c.cycle]; exact h.takeover
    mark := by rw [c.cycle]; exact h.mark
    presence := by rw [c.membership]; exact h.presence
    unused := by rw [c.slots]; exact h.unused
    unchanged := by rw [c.cells]; exact h.unchanged }

theorem raise (h : OverrunSettled s) (k : NoticeKind) (c : Option CellNo) (st : Station) (d : Nat) :
    OverrunSettled (Machine.raise k c st d s) := h.of_changes (raise_changes _ _ _ _ _)

theorem deliver (h : OverrunSettled s) (turns : List Source) : OverrunSettled (Machine.deliver turns s) :=
  h.of_changes (deliver_changes _ _)

theorem setCells (h : OverrunSettled s) {cells : List CellRecord} (hc : ∀ r ∈ cells, r.changed = false) :
    OverrunSettled (s.setCells cells) := { h with unchanged := hc }

theorem setSlots (h : OverrunSettled s) {slots : List FetchSlot} (hf : ∀ f ∈ slots, f.inUse = false) :
    OverrunSettled (s.setSlots slots) := { h with unused := hf }

theorem setMembership (h : OverrunSettled s) {m : Membership} (hn : m.node = s.membership.node)
    (hp : m.presence = s.membership.presence) : OverrunSettled (s.setMembership m) :=
  { h with node := hn.trans h.node, presence := hp.trans h.presence }

theorem setCycle (h : OverrunSettled s) (c : CycleUnit) (hl : c.lead = false) (ht : c.takeover = none) (hm : c.mark = .empty) :
    OverrunSettled (s.setCycle c) := { h with lead := hl, takeover := ht, mark := hm }

theorem setLine (h : OverrunSettled s) (l : LineInterface) (hd : l.driver = s.line.driver) (hv : l.vetoDue = s.line.vetoDue)
    (ht : l.track = s.line.track) : OverrunSettled (s.setLine l) :=
  { h with driver := hd.trans h.driver, due := hv.trans h.due, track := ht.trans h.track }

theorem foldl {α : Type} {f : State → α → State} (hf : ∀ t a, OverrunSettled t → OverrunSettled (f t a)) (l : List α)
    (h : OverrunSettled s) : OverrunSettled (l.foldl f s) := by
  induction l generalizing s with
  | nil => exact h
  | cons a l ih => exact ih (hf s a h)

theorem ite {f : State → State} (hf : ∀ t, OverrunSettled t → OverrunSettled (f t)) (b : Bool) (h : OverrunSettled s) :
    OverrunSettled (if b then f s else s) := by
  cases b
  · exact h
  · exact hf s h

/-! ### Cells -/

theorem cell_unchanged (h : OverrunSettled s) (c : CellNo) : (s.cell c).changed = false := by
  unfold State.cell
  by_cases hc : c.toNat < s.cells.length
  · simpa [hc] using h.unchanged _ (List.getElem_mem hc)
  · simp [hc, CellRecord.reset, CellRecord.fresh]

theorem setCell (h : OverrunSettled s) (c : CellNo) (r : CellRecord) (hr : r.changed = false) : OverrunSettled (s.setCell c r) :=
  h.setCells fun x hx => by
    rcases List.mem_or_eq_of_mem_set hx with old | rfl
    · exact h.unchanged x old
    · exact hr

theorem trigger_eq (h : OverrunSettled s) (c : CellNo) (r : Reason) : trigger c r s = s := by
  simp [trigger, h.node_eq]

theorem trigger (h : OverrunSettled s) (c : CellNo) (r : Reason) : OverrunSettled (Machine.trigger c r s) := by
  rwa [h.trigger_eq]

theorem makeStale (h : OverrunSettled s) (c : CellNo) : OverrunSettled (Machine.makeStale c s) :=
  (h.setCell c { s.cell c with freshness := .stale } (h.cell_unchanged c)).raise _ _ _ _

theorem makeLost (h : OverrunSettled s) (d : Nat) (c : CellNo) : OverrunSettled (Machine.makeLost d c s) :=
  (h.setCell c { s.cell c with freshness := .lost } (h.cell_unchanged c)).raise _ _ _ _

theorem regain (h : OverrunSettled s) (d : Nat) (c : CellNo) : OverrunSettled (Machine.regain d c s) :=
  ((h.setCell c ((s.cell c).regained s.own) (h.cell_unchanged c)).raise _ _ _ _).trigger c .join

theorem endGap (h : OverrunSettled s) (c : CellNo) : OverrunSettled (Machine.endGap c s) :=
  (h.setCell c { s.cell c with held := false } (h.cell_unchanged c)).trigger c .change

theorem judgeCell (h : OverrunSettled s) (c : CellNo) : OverrunSettled (Machine.judgeCell c s) := by
  unfold Machine.judgeCell
  dsimp only
  repeat' split
  · exact h.makeStale c
  · exact h.makeLost 0 c
  · exact h.regain 0 c
  · exact h.endGap c
  · exact h.trigger c .cyclic
  · exact h

theorem cellsCycle (h : OverrunSettled s) : OverrunSettled (Machine.cellsCycle s) := by
  refine foldl (fun t c ht => ht.judgeCell c) _ (h.setCells fun r hr => ?_)
  obtain ⟨old, hold, rfl⟩ := List.mem_map.mp hr
  have unchanged := h.unchanged old hold
  unfold CellRecord.cycle
  repeat' split
  all_goals exact unchanged

theorem cellsDeparture (h : OverrunSettled s) (st : Station) : OverrunSettled (Machine.cellsDeparture st s) := by
  refine foldl (fun t c ht => ?_) _ h
  split
  · exact ht.regain 1 c
  · exact ht.makeLost 1 c

/-! ### Fetch slots, the Roster and the presence -/

theorem slotsDeparture (h : OverrunSettled s) (st : Station) : OverrunSettled (Machine.slotsDeparture st s) := by
  refine foldl (fun t i ht => ?_) _ h
  dsimp only
  rw [slot_unused_of_all ht.unused i, Bool.false_and, if_neg Bool.false_ne_true]
  exact ht

theorem slotsCycle (h : OverrunSettled s) : OverrunSettled (Machine.slotsCycle s) := by
  refine foldl (fun t i ht => ?_) _ (h.setSlots fun f hf => ?_)
  · have free := (FetchSlot.inUse_eq_false_iff _).mp (slot_unused_of_all ht.unused i)
    rw [FetchSlot.tryEndDue, free]
    exact ht
  · obtain ⟨old, hold, rfl⟩ := List.mem_map.mp hf
    have free := (FetchSlot.inUse_eq_false_iff _).mp (h.unused old hold)
    rw [FetchSlot.cycle, free]
    exact h.unused old hold

theorem setEntry (h : OverrunSettled s) (st : Station) (e : RosterEntry) : OverrunSettled (s.setEntry st e) := by
  refine h.setMembership (Membership.setEntry_node _ _ _) ?_
  unfold Membership.setEntry
  split <;> rfl

theorem depart (h : OverrunSettled s) (st : Station) (d : Nat) (ff : Bool) : OverrunSettled (Machine.depart st d ff s) := by
  have absent := (h.setEntry st { s.entry st with state := .absent, silence := 0 }).raise .stationAbsent none st d
  unfold Machine.depart
  dsimp only
  split
  · exact (absent.slotsDeparture st).cellsDeparture st
  · exact (absent.cellsDeparture st).slotsDeparture st

theorem rosterCycle (h : OverrunSettled s) (st : Station) (ff : Bool) : OverrunSettled (Machine.rosterCycle st ff s) := by
  unfold Machine.rosterCycle
  dsimp only
  split
  · split
    · exact (h.setEntry st _).depart st 0 ff
    · exact h.setEntry st _
  · exact h

theorem presenceCycle (h : OverrunSettled s) : OverrunSettled (Machine.presenceCycle s) := by
  rwa [Machine.presenceCycle, if_neg (by simp [h.node_eq])]

theorem doWork (h : OverrunSettled s) (ff : Bool) (w : CycleWork) : OverrunSettled (Machine.doWork none ff s w) := by
  cases w with
  | roster st => exact h.rosterCycle st ff
  | cells => exact h.cellsCycle
  | slots => exact h.slotsCycle
  | presence => exact h.presenceCycle

/-! ### Time -/

theorem cycleEffects (h : OverrunSettled s) (ties : Ties) : OverrunSettled (Machine.cycleEffects none none ties s) := by
  have worked : OverrunSettled ((orderWorks ties.works).foldl (Machine.doWork none ties.fetchFirst) s) :=
    foldl (fun t w ht => ht.doWork ties.fetchFirst w) _ h
  unfold Machine.cycleEffects
  dsimp only
  have notListening : ¬s.node = .listening := by simp [h.node_eq]
  rw [if_neg notListening, if_neg (by rw [worked.node_eq]; simp)]
  exact worked

theorem localCycle (h : OverrunSettled s) (ties : Ties) : OverrunSettled (Machine.localCycle ties s) := by
  unfold Machine.localCycle
  refine (h.setCycle _ ?_ ?_ ?_).cycleEffects ties
  · exact h.lead
  · exact h.takeover
  · simp [h.lead, h.mark]

theorem advance (h : OverrunSettled s) (units : Nat) : OverrunSettled (Machine.advance units s) := by
  have passed : passVeto units (passSymbols units s) = passSymbols units s := by
    have due : (passSymbols units s).line.vetoDue = none := h.due
    have driver : (passSymbols units s).line.driver = .released := h.driver
    rw [passVeto, due]
    dsimp only
    rw [driveVeto, driver]
  unfold Machine.advance
  split
  · rw [passed]
    have symbols : OverrunSettled (passSymbols units s) := h.setLine _ rfl rfl rfl
    refine symbols.setCycle _ ?_ ?_ ?_
    · exact h.lead
    · simp [h.takeover]
    · exact h.mark
  · exact h

theorem lossOfSync (h : OverrunSettled s) (ties : Ties) : OverrunSettled (Machine.lossOfSync ties s) := by
  unfold Machine.lossOfSync
  dsimp only
  split
  · have passed := h.advance (3 * s.loader.params.periodUnits - s.cycle.markTimer)
    refine (((passed.setCycle _ ?_ ?_ ?_).raise _ _ _ _).deliver _).localCycle ties
    · exact passed.lead
    · exact passed.takeover
    · exact passed.mark
  · exact h

theorem localCycleStart (h : OverrunSettled s) (ties : Ties) : OverrunSettled (Machine.localCycleStart ties s) := by
  unfold Machine.localCycleStart
  split
  · exact (h.advance _).localCycle ties
  · exact h

theorem markFill (h : OverrunSettled s) : OverrunSettled (Machine.markFill s) := by
  rwa [Machine.markFill, if_neg (by simp [h.lead])]

theorem takeOver (h : OverrunSettled s) : OverrunSettled (Machine.takeOver s) := by
  rwa [Machine.takeOver, h.takeover]

end OverrunSettled

theorem driverTimeout_settled {s : State} (report : Overrun) (h : Sender s) : OverrunSettled (driverTimeout report s) := by
  obtain ⟨seen, unit⟩ := driverTimeout_standingUnit report h
  refine .of_enteredCutOff (driverTimeout_enteredCutOff report h) (by rw [unit]) ?_
  rw [driverTimeout_line report h]
  rfl

/-! ## When the over-run check watches a frame (R20) -/

theorem unitsPerSymbol_pos (rateCode : Nat) : 0 < Config.unitsPerSymbol rateCode := Nat.two_pow_pos _

theorem stopsShort_eq_false_iff (l : LineInterface) : l.stopsShort = false ↔ ∀ k, l.stall = some k → l.guardPlace ≤ k := by
  unfold LineInterface.stopsShort
  split <;> simp_all

/-- The sender has reached the guard symbol of its frame: the time has passed, and the transmit path does not stop before it. -/
def reachesGuard (s : State) : Prop :=
  s.line.guardPlace * 2 ^ (4 - s.loader.params.rateCode) ≤ s.line.elapsed ∧ ∀ k, s.line.stall = some k → s.line.guardPlace ≤ k

theorem guardReached_iff (s : State) : s.guardReached = true ↔ reachesGuard s := by
  rw [State.guardReached, Bool.and_eq_true, decide_eq_true_eq, Bool.not_eq_true', stopsShort_eq_false_iff, State.symbolsPassed,
    Params.symbolUnits, Nat.one_mul, Nat.le_div_iff_mul_le (unitsPerSymbol_pos _)]
  rfl

theorem watched_iff (s : State) :
    s.watched = true ↔ s.line.track = .sending ∧ (s.node = .member ∨ s.node = .leaving) ∧ ¬reachesGuard s := by
  rw [State.watched, Bool.and_eq_true, Bool.and_eq_true, beq_iff_eq, NodeState.starts_iff, Bool.not_eq_true', Bool.eq_false_iff, ne_eq,
    guardReached_iff, and_assoc]

/-- The state at the 240th symbol time of the frame that is sent. -/
def atOverrun (s : State) : State := advance (s.overrunUnits - s.line.elapsed) s

theorem exec_driverTimeout_of_watched {s : State} (report : Overrun) (h : Live s) (hw : s.watched = true) :
    exec (.driverTimeout report) s = .next (deliver report.ties.turns (driverTimeout report (atOverrun s))) := by
  simp [exec, execDriverTimeout, event, h.inReset, hw, atOverrun]

theorem exec_driverTimeout_of_unwatched {s : State} (report : Overrun) (h : Live s) (hw : ¬s.watched = true) :
    exec (.driverTimeout report) s = .next s :=
  event_of_idle_effect _ _ h (by rw [if_neg hw])

theorem onLine_of_starts {s : State} (h : s.node = .member ∨ s.node = .leaving) : s.onLine = true := by
  rcases h with h | h <;> simp [State.onLine, h, NodeState.onLine]

/-- A sender that time passes for is a sender still. -/
theorem Sender.of_changes {s t : State} {ps : List Block} (h : Sender s) (c : ChangesOnly ps s t)
    (hn : Block.node ∉ ps := by decide) (hl : Block.level ∉ ps := by decide) (hf : t.standingUnit.sendFaults = s.standingUnit.sendFaults)
    (hs : Block.slots ∉ ps := by decide) : Sender t where
  node := by rw [c.node hn]; exact h.node
  loud := by rw [c.level hl]; exact h.loud
  below := by rw [hf]; exact h.below
  slots := by rw [c.slots hs]; exact h.slots

/-! ## The over-run as time passes (R20; log 35) -/

theorem stickIf_changes (b : Bool) (s : State) : ChangesOnly [.line, .standing, .notices] s (if b then stick s else s) := by
  split
  · exact stick_changes s
  · exact .refl s

theorem stickIf_line (b : Bool) {s : State} (sending : s.line.track = .sending) : ∃ state idle run, (if b then stick s else s).line
    = { s.line with lineState := state, idleRun := idle, dominantRun := run } := by
  split
  · exact ⟨.stuck, 0, Config.stuckRun, by simp [stick, raise, sending]⟩
  · exact ⟨_, _, _, rfl⟩

theorem stickIf_sendFaults (b : Bool) (s : State) :
    (if b then stick s else s).standingUnit.sendFaults = s.standingUnit.sendFaults := by
  split <;> rfl

/-- A frame whose transmit path has stopped short, at its 240th symbol time. -/
theorem overrunDue_of_stopped {s : State} {k : Nat} (sending : s.line.track = .sending) (node : s.node = .member ∨ s.node = .leaving)
    (stall : s.line.stall = some k) (short : k < s.line.guardPlace)
    (late : 240 * 2 ^ (4 - s.loader.params.rateCode) ≤ s.line.elapsed) : s.overrunDue = true := by
  rw [State.overrunDue, Bool.and_eq_true, decide_eq_true_eq]
  exact ⟨late, (watched_iff s).mpr ⟨sending, node, fun reached => absurd (reached.2 k stall) (by omega)⟩⟩

theorem tick_of_stopped {s : State} {k : Nat} (live : Live s) (sender : Sender s) (due : s.line.vetoDue = none)
    (sending : s.line.track = .sending) (stall : s.line.stall = some k) (short : k < s.line.guardPlace)
    (late : 240 * 2 ^ (4 - s.loader.params.rateCode) ≤ s.line.elapsed + 1) : OverrunSettled (tick s) := by
  have on := onLine_of_starts sender.node
  obtain ⟨driver, passedLine⟩ := advance_line_of_sending 1 on sending due
  have passed := advance_changes_of_undue 1 due
  have stuck := stickIf_changes (advance 1 s).stallSticks (advance 1 s)
  obtain ⟨state, idle, run, stuckLine⟩ := stickIf_line (advance 1 s).stallSticks (s := advance 1 s) (by rw [passedLine]; exact sending)
  have faults := stickIf_sendFaults (advance 1 s).stallSticks (advance 1 s)
  unfold tick
  rw [if_neg (by simp [live.inReset, on])]
  dsimp only
  generalize (if (advance 1 s).stallSticks then stick (advance 1 s) else advance 1 s) = u at stuck stuckLine faults ⊢
  have still : Sender u := by
    have passedSender : Sender (advance 1 s) := sender.of_changes passed (hf := by rw [passed.standing])
    exact { node := by rw [stuck.node]; exact passedSender.node
            loud := by rw [stuck.level]; exact passedSender.loud
            below := by rw [faults]; exact passedSender.below
            slots := by rw [stuck.slots]; exact passedSender.slots }
  have overrun : u.overrunDue = true := by
    refine overrunDue_of_stopped (k := k) ?_ still.node ?_ ?_ ?_
    · rw [stuckLine, passedLine]; exact sending
    · rw [stuckLine, passedLine]; exact stall
    · rw [stuckLine, passedLine]; exact short
    · rw [stuckLine, passedLine, stuck.params, passed.params]; exact late
  rw [if_pos overrun]
  have settled := driverTimeout_settled ⟨.seen u.sentLevels, Ties.default⟩ still
  generalize driverTimeout ⟨.seen u.sentLevels, Ties.default⟩ u = v at settled ⊢
  refine OverrunSettled.deliver ?_ []
  refine OverrunSettled.ite (f := takeOver) (fun t ht => ht.takeOver) _ ?_
  refine OverrunSettled.ite (f := markFill) (fun t ht => ht.markFill) _ ?_
  refine OverrunSettled.ite (f := localCycleStart Ties.default) (fun t ht => ht.localCycleStart Ties.default) _ ?_
  exact OverrunSettled.ite (f := lossOfSync Ties.default) (fun t ht => ht.lossOfSync Ties.default) _ settled

/-! ## DRIVER_TIMEOUT -/

theorem atOverrun_changes {s : State} (due : s.line.vetoDue = none) : ChangesOnly [.line, .driver, .cycle, .clock] s (atOverrun s) :=
  advance_changes_of_undue _ due

/-- A veto is due only while no frame is tracked (R12, R14). -/
theorem DriverBounded.undue_of_sending {s : State} (h : DriverBounded s) (sending : s.line.track = .sending) : s.line.vetoDue = none := by
  refine Decidable.byContradiction fun due => ?_
  simp [h.2.2 due] at sending

theorem step_of_no_command {s : State} (h : s.pending = []) : step s = .next (tick s) := by
  rw [step, h]

/-- Settles O33: the time passes (`atOverrun`), the over-run takes the sender to CUT_OFF (`driverTimeout_of_sender`), and what it leaves stands
as time goes on (`OverrunSettled`). -/
theorem driverTimeoutSilencesTheNode : Obligations.DriverTimeoutSilencesTheNode := by
  refine ⟨fun s report live shape standing bounded => ?_, fun s k live shape standing bounded idle sending node stall short late => ?_⟩
  · intro unit reached
    refine ⟨fun sending node unreached => ?_, fun unwatched => ?_⟩
    · have due := bounded.undue_of_sending sending
      have on := onLine_of_starts node
      have passed := atOverrun_changes due
      have sender : Sender (atOverrun s) := (Sender.of_sound node shape standing).of_changes passed (hf := by rw [passed.standing])
      obtain ⟨driver, passedLine⟩ : ∃ driver, (atOverrun s).line = _ := advance_line_of_sending _ on sending due
      have passedCycle : (atOverrun s).cycle = _ := advance_cycle _ on
      obtain ⟨seen, counted⟩ := driverTimeout_standingUnit report sender
      have line := driverTimeout_line report sender
      have changes := driverTimeout_changes_of_sender report sender
      have delivered := deliver_changes report.ties.turns (driverTimeout report (atOverrun s))
      obtain ⟨number, cycleTimer, markTimer, synced, syncHeld⟩ := changes.clock
      have settled := (driverTimeout_settled report sender).deliver report.ties.turns
      refine ⟨_, exec_driverTimeout_of_watched report live ((watched_iff s).mpr ⟨sending, node, unreached⟩), settled.enteredCutOff,
        settled.sendFaults, ?_, settled.track, ?_, ?_, ?_, ?_, ?_, ?_, ?_, ?_, ?_,
        ((passed.mono (by decide)).after changes).after delivered⟩
      · rw [delivered.standing, counted, passed.standing]
      · rw [delivered.line, line]
      · rw [delivered.line, line]; rfl
      · rw [delivered.line, line]
        show (overrunSticks report.view.dominantRun (atOverrun s)).line.lineState = _
        rw [overrunSticks_lineState, passedLine]
      · rw [delivered.cycle, cycleTimer, passedCycle]; rfl
      · rw [delivered.cycle, markTimer, passedCycle]; rfl
      · rw [delivered.cycle, number, passedCycle]
      · rw [delivered.cycle, synced, passedCycle]
      · rw [delivered.cycle, syncHeld, passedCycle]
      · rw [delivered.lineCounters, driverTimeout_counters report sender, passed.counters]; rfl
    · refine exec_driverTimeout_of_unwatched report live fun watched => ?_
      obtain ⟨sending, node, unreached⟩ := (watched_iff s).mp watched
      rcases unwatched with h | ⟨hm, hl⟩ | h
      · exact h sending
      · exact node.elim hm hl
      · exact unreached h
  · have settled := tick_of_stopped live (Sender.of_sound node shape standing) (bounded.undue_of_sending sending) sending stall short late
    exact ⟨tick s, step_of_no_command idle, settled.enteredCutOff, settled.sendFaults, settled.track⟩

end Sys2Proof.Machine
end

section
/-! SUPPORT. Time that passes with no command, and the two timers of the lead: MARK_FILL and TAKEOVER (R14, R19, R20, R62, R63, R70, R74). -/

set_option Elab.async false

namespace Sys2Proof.Machine

/-! ## Time at the line (R19) -/

theorem passSymbols_eq (units : Nat) (s : State) : passSymbols units s = s.setLine { s.line with
    elapsed := s.line.elapsed + units
    dominantRun := if (s.line.track = .none ∨ s.line.track = .trailing)
        ∧ 2 * 2 ^ (4 - s.loader.params.rateCode) ≤ s.line.elapsed + units then 0
      else s.line.dominantRun } := by
  simp only [passSymbols, Bool.and_eq_true, LineInterface.outside_iff, decide_eq_true_eq]
  rfl

/-! ## Time for a veto (R12, R14) -/

theorem driveVeto_of_no_veto (units : Nat) {s : State} (h : ∀ left, s.line.driver ≠ .veto left) : driveVeto units s = s := by
  unfold driveVeto
  split
  · next left driver => exact absurd driver (h left)
  · rfl
  · rfl

theorem driveVeto_of_veto (units : Nat) {s : State} {left : Nat} (h : s.line.driver = .veto left) :
    driveVeto units s = s.setLine { s.line with driver := if left ≤ units then .released else .veto (left - units) } := by
  rw [driveVeto, h]

theorem beginVeto_of_may {s : State} (may : s.mayVeto = true) :
    beginVeto s = (s.setCounters (bump 4 1 s.counters)).setLine { s.line with
      driver := .veto (8 * 2 ^ (4 - s.loader.params.rateCode)), vetoDue := none, idleRun := 0, dominantRun := 0 } := by
  rw [beginVeto, if_pos may, count_of_no_threshold rfl]
  rfl

theorem beginVeto_of_may_not {s : State} (may : s.mayVeto = false) : beginVeto s = s.setLine { s.line with vetoDue := none } := by
  rw [beginVeto, if_neg (by simp [may])]

theorem passVeto_of_none (units : Nat) {s : State} (due : s.line.vetoDue = none) : passVeto units s = driveVeto units s := by
  rw [passVeto, due]

theorem passVeto_of_ahead {units due : Nat} {s : State} (h : s.line.vetoDue = some due) (ahead : units < due) :
    passVeto units s = s.setLine { s.line with vetoDue := some (due - units) } := by
  rw [passVeto, h]
  exact if_neg (Nat.not_le.mpr ahead)

theorem passVeto_of_due {units due : Nat} {s : State} (h : s.line.vetoDue = some due) (reached : due ≤ units) :
    passVeto units s = driveVeto (units - due) (beginVeto s) := by
  rw [passVeto, h]
  exact if_pos reached

/-! ### What time leaves of the line -/

/-- As time passes for a veto, the frame that is tracked and the time at the line stand. -/
def LineInterface.SameFrame (l m : LineInterface) : Prop :=
  m.track = l.track ∧ m.tx = l.tx ∧ m.stall = l.stall ∧ m.elapsed = l.elapsed

theorem driveVeto_sameFrame (units : Nat) (s : State) : s.line.SameFrame (driveVeto units s).line := by
  unfold driveVeto
  split <;> exact ⟨rfl, rfl, rfl, rfl⟩

theorem beginVeto_sameFrame (s : State) : s.line.SameFrame (beginVeto s).line := by
  cases may : s.mayVeto with
  | true => rw [beginVeto_of_may may]; exact ⟨rfl, rfl, rfl, rfl⟩
  | false => rw [beginVeto_of_may_not may]; exact ⟨rfl, rfl, rfl, rfl⟩

theorem passVeto_sameFrame (units : Nat) (s : State) : s.line.SameFrame (passVeto units s).line := by
  unfold passVeto
  split
  · split
    · obtain ⟨track, tx, stall, elapsed⟩ := beginVeto_sameFrame s
      obtain ⟨track', tx', stall', elapsed'⟩ := driveVeto_sameFrame (units - _) (beginVeto s)
      exact ⟨track'.trans track, tx'.trans tx, stall'.trans stall, elapsed'.trans elapsed⟩
    · exact ⟨rfl, rfl, rfl, rfl⟩
  · exact driveVeto_sameFrame units s

/-! ### No notice comes of time alone -/

theorem driveVeto_notices (units : Nat) (s : State) : (driveVeto units s).notices = s.notices := (driveVeto_changes units s).notices

/-- A veto that begins is counted in VETOES, which has no threshold (R21, R38). -/
theorem beginVeto_notices (s : State) : (beginVeto s).notices = s.notices := by
  cases may : s.mayVeto with
  | true => rw [beginVeto_of_may may]; rfl
  | false => rw [beginVeto_of_may_not may]; rfl

theorem passVeto_notices (units : Nat) (s : State) : (passVeto units s).notices = s.notices := by
  unfold passVeto
  split
  · split
    · rw [driveVeto_notices, beginVeto_notices]
    · rfl
  · exact driveVeto_notices units s

/-! ## Time for the node (R62, R63) -/

theorem advance_of_onLine (units : Nat) {s : State} (on : s.onLine = true) :
    advance units s = (passVeto units (passSymbols units s)).setCycle { s.cycle with
      cycleTimer := s.cycle.cycleTimer + units
      markTimer := s.cycle.markTimer + units
      takeover := s.cycle.takeover.map (· + units) } := if_pos on

theorem advance_notices (units : Nat) (s : State) : (advance units s).notices = s.notices := by
  unfold advance
  split
  · exact passVeto_notices units (passSymbols units s)
  · rfl

theorem advance_line (units : Nat) {s : State} (on : s.onLine = true) :
    (advance units s).line.track = s.line.track ∧ (advance units s).line.tx = s.line.tx
      ∧ (advance units s).line.stall = s.line.stall ∧ (advance units s).line.elapsed = s.line.elapsed + units := by
  rw [advance_of_onLine units on]
  exact passVeto_sameFrame units (passSymbols units s)

/-- A transmit path that does not stop leaves no line stuck (R20; log 35). -/
theorem stallSticks_of_no_stall {s : State} (h : s.line.track = .sending → s.line.stall = none) : s.stallSticks = false := by
  by_cases sending : s.line.track = .sending
  · simp [State.stallSticks, LineInterface.stopsShort, h sending]
  · simp [State.stallSticks, sending]

/-- A frame is not over-run before its 240th symbol time, nor once it has reached its guard symbol (R20). -/
theorem overrunDue_of_within {s : State} (h : s.line.track = .sending → s.line.stall = none
      ∧ (s.line.elapsed < 240 * 2 ^ (4 - s.loader.params.rateCode)
        ∨ s.line.guardPlace * 2 ^ (4 - s.loader.params.rateCode) ≤ s.line.elapsed)) : s.overrunDue = false := by
  refine Bool.eq_false_iff.mpr fun due => ?_
  rw [State.overrunDue, Bool.and_eq_true, decide_eq_true_eq, watched_iff] at due
  obtain ⟨late, sending, -, unreached⟩ := due
  obtain ⟨steady, early | reached⟩ := h sending
  · exact absurd late (Nat.not_le.mpr early)
  · exact unreached ⟨reached, fun k stops => by simp [steady] at stops⟩

/-! ## A step with no command (log 3) -/

theorem timerDue_some (t limit : Nat) : timerDue (some t) limit = decide (limit ≤ t) := rfl

theorem timerDue_eq_false_iff (timer : Option Nat) (limit : Nat) : timerDue timer limit = false ↔ ∀ t, timer = some t → t < limit := by
  cases timer <;> simp [timerDue]

theorem markFill_of_no_lead {s : State} (h : s.cycle.lead = false) : markFill s = s := by
  rw [markFill, if_neg (by simp [h])]

/-- With the Cycle Unit stopped no time passes (R63; log 20). -/
theorem tick_of_stopped_clock {s : State} (h : s.onLine = false) : tick s = s := by
  rw [tick, if_pos (by simp [h])]

/-- Where the unit of time makes neither the line nor a timer due, time alone passes. -/
theorem tick_of_nothing_due {s : State} (live : Live s) (on : s.onLine = true)
    (unstuck : (advance 1 s).stallSticks = false) (within : (advance 1 s).overrunDue = false)
    (marked : s.cycle.synced = true → s.cycle.markTimer + 1 < 3 * s.loader.params.periodUnits)
    (short : s.cycle.synced = false ∨ s.cycle.lead = true → s.cycle.cycleTimer + 1 < s.loader.params.periodUnits)
    (waits : ∀ n, s.cycle.takeover = some n → n + 1 < s.loader.params.takeoverUnits) : tick s = advance 1 s := by
  have params : (advance 1 s).loader.params = s.loader.params := (advance_changes 1 s).params
  have cycle := advance_cycle 1 on
  have inSync : ((advance 1 s).cycle.synced
      && timerDue (some (advance 1 s).cycle.markTimer) (3 * (advance 1 s).loader.params.periodUnits)) = false := by
    rw [cycle, params, timerDue_some, Bool.and_eq_false_imp]
    exact fun synced => decide_eq_false (Nat.not_le.mpr (marked synced))
  have inCycle : (!(advance 1 s).cycle.synced
      && timerDue (some (advance 1 s).cycle.cycleTimer) (advance 1 s).loader.params.periodUnits) = false := by
    rw [cycle, params, timerDue_some, Bool.and_eq_false_imp]
    exact fun unsynced => decide_eq_false (Nat.not_le.mpr (short (.inl (by simpa using unsynced))))
  have noFill : (if timerDue (some (advance 1 s).cycle.cycleTimer) (advance 1 s).loader.params.periodUnits
      then markFill (advance 1 s) else advance 1 s) = advance 1 s := by
    split
    · next late =>
      refine markFill_of_no_lead (Bool.eq_false_iff.mpr fun leads => ?_)
      rw [cycle] at leads late
      rw [params, timerDue_some, decide_eq_true_eq] at late
      exact absurd (short (.inr leads)) (Nat.not_lt.mpr late)
    · rfl
  have noTakeover : timerDue (advance 1 s).cycle.takeover (advance 1 s).loader.params.takeoverUnits = false := by
    rw [cycle, params, timerDue_eq_false_iff]
    intro t running
    obtain ⟨n, before, rfl⟩ := Option.map_eq_some_iff.mp running
    exact waits n before
  unfold tick
  rw [if_neg (by simp [live.inReset, on])]
  simp only [unstuck, within, inSync, inCycle, noFill, noTakeover, Bool.false_eq_true, if_false]
  exact deliver_of_empty [] _ (by rw [advance_notices]; exact live.outbox)

/-- Settles O2: with nothing due a unit of time alone passes (`tick_of_nothing_due`), and it passes for the line and for a veto as the
equations of `passSymbols` and `passVeto` say. -/
theorem emptyQueueLetsTimePass : Obligations.EmptyQueueLetsTimePass := by
  refine ⟨fun s live idle => ⟨fun off => ?_, fun on marked short waits sending => ?_⟩,
    fun s n => ⟨passSymbols_eq n s, fun undue undriven => ?_, fun left undue driven => ?_, fun due h ahead => passVeto_of_ahead h ahead,
      fun due h reached may => ?_, fun due h reached may undriven => ?_⟩⟩
  · rw [step_of_no_command idle, tick_of_stopped_clock off]
  · obtain ⟨track, tx, stall, elapsed⟩ := advance_line 1 on
    have params : (advance 1 s).loader.params = s.loader.params := (advance_changes 1 s).params
    have guardPlace : (advance 1 s).line.guardPlace = s.line.guardPlace := by rw [LineInterface.guardPlace, tx, LineInterface.guardPlace]
    have unstuck : (advance 1 s).stallSticks = false := by
      refine stallSticks_of_no_stall fun sends => ?_
      rw [stall]
      exact (sending (track ▸ sends)).1
    have within : (advance 1 s).overrunDue = false := by
      refine overrunDue_of_within fun sends => ?_
      rw [stall, elapsed, params, guardPlace]
      exact sending (track ▸ sends)
    rw [step_of_no_command idle, tick_of_nothing_due live on unstuck within marked short waits, advance_of_onLine 1 on]
  · rw [passVeto_of_none n undue, driveVeto_of_no_veto n undriven]
  · rw [passVeto_of_none n undue, driveVeto_of_veto n driven]
  · rw [passVeto_of_due h reached, beginVeto_of_may may, driveVeto_of_veto _ rfl]
    rfl
  · rw [passVeto_of_due h reached, beginVeto_of_may_not may]
    exact driveVeto_of_no_veto (s := s.setLine _) _ undriven

/-! ## MARK_FILL (R70) -/

theorem markFill_of_empty {s : State} (on : s.onLine = true) (leads : s.cycle.lead = true) (empty : s.cycle.mark = .empty) :
    markFill s = fillMark (advance (s.loader.params.periodUnits - s.cycle.cycleTimer) s) := if_pos ⟨on, leads, empty⟩

theorem exec_markFill {s : State} (h : Live s) : exec .markFill s = .next (markFill s) := by
  refine event_of_quiet_effect [] markFill h ?_
  unfold markFill
  split
  · rw [(fillMark_changes _).notices, advance_notices]; exact h.outbox
  · exact h.outbox

/-! ## TAKEOVER (R74) -/

theorem fillMark_raise (kind : NoticeKind) (c : Option CellNo) (st : Station) (detail : Nat) (s : State) :
    fillMark (raise kind c st detail s) = raise kind c st detail (fillMark s) := rfl

/-- A single notice reaches the queue as it was raised. -/
theorem deliver_raise (kind : NoticeKind) (c : Option CellNo) (st : Station) (detail : Nat) {s : State} (h : s.notices.outbox = []) :
    deliver [] (raise kind c st detail s) = post ⟨kind, c, st, s.cycle.number, byte detail⟩ s := by
  have outbox : (raise kind c st detail s).notices.outbox = [⟨kind, c, st, s.cycle.number, byte detail⟩] := by simp [raise, h]
  have emptied : (raise kind c st detail s).setNotices { (raise kind c st detail s).notices with outbox := [] } = s := by
    have notices : s.notices = { s.notices with outbox := [] } := by rw [← h]
    dsimp only [raise, State.setNotices]
    rw [← notices]
  rw [deliver, outbox, emptied]
  rfl

theorem mayTakeOver_iff (s : State) : s.mayTakeOver = true ↔ s.node = .member ∧ s.loader.params.leadEligible = true
    ∧ s.cycle.lead = false ∧ s.standingUnit.standing ≠ .silent := by
  simp [State.mayTakeOver, and_assoc]

theorem takeOver_of_running {s : State} {n : Nat} (may : s.mayTakeOver = true) (running : s.cycle.takeover = some n) :
    takeOver s = takeLead 1 (advance (s.loader.params.takeoverUnits - n) s) := by
  rw [takeOver, running]
  exact if_pos may

theorem exec_takeover {s : State} (h : Live s) : exec .takeover s = .next (deliver [] (takeOver s)) := event_eq [] takeOver s h.inReset

/-- The lead taken over by a node with no other notice on its way: LEAD_TAKEN reaches the queue. -/
theorem deliver_takeLead {s : State} (h : s.notices.outbox = []) : deliver [] (takeLead 1 s)
    = post ⟨.leadTaken, none, s.own, s.cycle.number, 1⟩ (s.setCycle { s.cycle with
        takeover := none, lead := true, mark := .waiting, markNumber := s.cycle.number + 1 }) := by
  rw [takeLead, fillMark_raise]
  exact deliver_raise .leadTaken none s.own 1 (s := fillMark (s.setCycle _)) h

/-- Settles O50: the time to the limit passes (`advance_of_onLine`), then the mark entry is filled, or the lead is taken. -/
theorem markFillAndTakeover : Obligations.MarkFillAndTakeover := by
  refine fun s live => ⟨fun on leads empty early => ?_, fun n member eligible follows loud running => ?_⟩
  · rw [exec_markFill live, markFill_of_empty on leads empty, advance_of_onLine _ on, Nat.add_sub_cancel' early]
    rfl
  · have on : s.onLine = true := onLine_of_starts (.inl member)
    have may : s.mayTakeOver = true := (mayTakeOver_iff s).mpr ⟨member, eligible, follows, loud⟩
    have own : (advance (s.loader.params.takeoverUnits - n) s).own = s.own := congrArg Params.station (advance_changes _ s).params
    rw [exec_takeover live, takeOver_of_running may running, deliver_takeLead (by rw [advance_notices]; exact live.outbox), own,
      advance_of_onLine _ on]
    rfl

end Sys2Proof.Machine
end

section
/-! SUPPORT. What a cycle start makes of the clock, the lead and the snapshot areas: LOCAL_CYCLE_START, LOSS_OF_SYNC, and a mark taken (R64, R67,
R68, R70, R72, R74, R143 to R148). -/

set_option Elab.async false

namespace Sys2Proof.Machine

/-! ## Single counters (R36) -/

theorem bump_getD_same {k n : Nat} {counters : List Nat} (h : k < counters.length) :
    (bump k n counters).getD k 0 = min (counters.getD k 0 + n) 65535 := by
  simp [bump, h]

theorem bump_getD_other {k j n : Nat} {counters : List Nat} (h : j ≠ k) : (bump k n counters).getD j 0 = counters.getD j 0 := by
  simp [bump, List.getD_eq_getElem?_getD, List.getElem?_set_ne h.symm]

/-- The arrival of a notice counts in NOTICES_LOST alone (R157). -/
theorem post_counter_other (n : Notice) (s : State) {k : Nat} (h : k ≠ 12) : (post n s).counters.getD k 0 = s.counters.getD k 0 := by
  unfold post
  dsimp only
  split
  · rfl
  · split
    · rfl
    · exact bump_getD_other (n := 1) h

theorem deliver_counter_other (turns : List Source) (s : State) {k : Nat} (h : k ≠ 12) :
    (deliver turns s).counters.getD k 0 = s.counters.getD k 0 := by
  have posted (l : List Notice) (t : State) : (l.foldl (fun t n => post n t) t).counters.getD k 0 = t.counters.getD k 0 := by
    induction l generalizing t with
    | nil => rfl
    | cons n l ih => rw [List.foldl_cons, ih, post_counter_other n t h]
  exact posted _ _

/-! ## The works of a cycle start -/

/-- The state after the works of every block at a cycle start. -/
def worked (taken : Option Station) (ties : Ties) (s : State) : State := (orderWorks ties.works).foldl (doWork taken ties.fetchFirst) s

theorem worked_changes (taken : Option Station) (ties : Ties) (s : State) :
    ChangesOnly [.membership, .cells, .slots, .sendQueue, .notices] s (worked taken ties s) :=
  ChangesOnly.foldl _ (fun t w => doWork_changes _ _ t w) _ _

/-- Outside LISTENING a local cycle start is the works of the blocks. -/
theorem cycleEffects_local {s : State} (taken : Option Station) (ties : Ties) (h : s.node ≠ .listening) :
    cycleEffects none taken ties s = worked taken ties s := by
  have still : ¬(worked taken ties s).node = .listening := by rwa [(worked_changes taken ties s).node]
  unfold cycleEffects
  dsimp only
  rw [if_neg h]
  exact if_neg still

/-- A marked cycle start is a local one after the freeze (R143, R144). -/
theorem cycleEffects_some (st : Station) (taken : Option Station) (ties : Ties) (s : State) :
    cycleEffects (some st) taken ties s = cycleEffects none taken ties (if s.node = .member then freeze st s else s) := rfl

/-- In MEMBER a marked cycle start is a freeze, then the works of the blocks (R144). -/
theorem cycleEffects_marked {s : State} (st : Station) (taken : Option Station) (ties : Ties) (h : s.node = .member) :
    cycleEffects (some st) taken ties s = worked taken ties (freeze st s) := by
  have frozen : (freeze st s).node ≠ .listening := by rw [(freeze_changes st s).node, h]; decide
  rw [cycleEffects_some, if_pos h, cycleEffects_local taken ties frozen]

/-- A cycle start that freezes nothing: a local one, or one outside MEMBER (R143). -/
theorem cycleEffects_changes_of_no_freeze {mark : Option Station} (taken : Option Station) (ties : Ties) {s : State}
    (h : mark = none ∨ s.node ≠ .member) :
    ChangesOnly [.counters, .membership, .node, .cycle, .lead, .cells, .slots, .sendQueue, .notices, .posted] s
      (cycleEffects mark taken ties s) := by
  have unfrozen : cycleEffects mark taken ties s = cycleEffects none taken ties s := by
    rcases h with rfl | h
    · rfl
    · cases mark with
      | none => rfl
      | some st => rw [cycleEffects_some, if_neg h]
  have tallied : ChangesOnly [.counters, .membership, .node, .cycle, .lead, .cells, .slots, .sendQueue, .notices, .posted] s
      (if s.node = .listening then tally taken.isSome s else s) := by
    split
    · exact (tally_changes _ _).mono (by decide)
    · exact .refl s
  have judged (t : State) : ChangesOnly [.counters, .membership, .node, .cycle, .lead, .cells, .slots, .sendQueue, .notices, .posted] t
      (if t.node = .listening then judgeListening (deliver ties.turns t) else t) := by
    split
    · exact ((deliver_changes _ _).mono (by decide)).after (judgeListening_changes _)
    · exact .refl t
  rw [unfrozen]
  exact (tallied.after (worked_changes taken ties _)).trans (judged _)

/-! ## The local cycle start (R67, R70) -/

/-- The Cycle Unit's own part of a local cycle start: the number, the cycle timer, and a lead's mark that is not in flight (R67, R70; log 18). -/
def CycleUnit.localStart (c : CycleUnit) : CycleUnit := { c with
  number := c.number + 1
  cycleTimer := 0
  mark := if c.lead ∧ c.mark = .empty then .waiting else c.mark
  markNumber := if c.lead ∧ c.mark ≠ .inFlight then c.number + 1 + 1 else c.markNumber }

theorem localCycle_eq (ties : Ties) (s : State) : localCycle ties s = cycleEffects none none ties (s.setCycle s.cycle.localStart) := rfl

theorem localCycle_changes_of_no_freeze (ties : Ties) (s : State) :
    ChangesOnly [.counters, .membership, .node, .cycle, .clock, .lead, .cells, .slots, .sendQueue, .notices, .posted] s
      (localCycle ties s) :=
  ((setCycle_changes _ _).mono (by decide)).after (cycleEffects_changes_of_no_freeze none ties (.inl rfl))

/-- The clock right after a local cycle start. -/
theorem localCycle_clock (ties : Ties) (s : State) : (localCycle ties s).cycle.number = s.cycle.number + 1
    ∧ (localCycle ties s).cycle.cycleTimer = 0 ∧ (localCycle ties s).cycle.markTimer = s.cycle.markTimer
    ∧ (localCycle ties s).cycle.synced = s.cycle.synced ∧ (localCycle ties s).cycle.syncHeld = s.cycle.syncHeld :=
  (cycleEffects_changes none none ties (s.setCycle s.cycle.localStart)).clock

theorem localCycle_cycle {s : State} (ties : Ties) (h : s.node ≠ .listening) : (localCycle ties s).cycle = s.cycle.localStart := by
  rw [localCycle_eq, cycleEffects_local none ties (s := s.setCycle s.cycle.localStart) h, (worked_changes _ _ _).cycle]
  rfl

/-! ## LOCAL_CYCLE_START and LOSS_OF_SYNC (R67, R68) -/

theorem exec_localCycleStart {s : State} (ties : Ties) (h : Live s) (on : s.onLine = true) (unsynced : s.cycle.synced = false) :
    exec (.localCycleStart ties) s
      = .next (deliver ties.turns (localCycle ties (advance (s.loader.params.periodUnits - s.cycle.cycleTimer) s))) := by
  simp [exec, execLocalCycleStart, event, h.inReset, localCycleStart, on, unsynced]

/-- Sync lost at the mark timer's limit: UNSYNCED, SYNC_HELD 0, and CYCLE_LOST delivered under the old number (R35, R68, R154). -/
def syncLost (turns : List Source) (s : State) : State :=
  let passed := advance (3 * s.loader.params.periodUnits - s.cycle.markTimer) s
  deliver turns (raise .cycleLost none 0 0 (passed.setCycle { passed.cycle with synced := false, syncHeld := false }))

theorem exec_lossOfSync {s : State} (ties : Ties) (h : Live s) (on : s.onLine = true) (synced : s.cycle.synced = true) :
    exec (.lossOfSync ties) s = .next (deliver ties.turns (localCycle ties (syncLost ties.turns s))) := by
  simp [exec, execLossOfSync, event, h.inReset, lossOfSync, on, synced, syncLost]

theorem syncLost_cycle (turns : List Source) (s : State) : (syncLost turns s).cycle
    = { (advance (3 * s.loader.params.periodUnits - s.cycle.markTimer) s).cycle with synced := false, syncHeld := false } :=
  (deliver_changes turns _).cycle

theorem syncLost_changes (turns : List Source) (s : State) :
    ChangesOnly [.line, .driver, .cycle, .clock, .lead, .counters, .lineCounters, .notices, .posted] s (syncLost turns s) :=
  ((((advance_changes _ s).mono (by decide)).after (setCycle_changes _ _)).after (raise_changes _ _ _ _ _)).after (deliver_changes _ _)

/-- Settles O49: the time to the limit passes (`advance_cycle`), and at a loss of sync `syncLost` follows; then the local cycle start sets the
clock (`localCycle_clock`), and outside LISTENING the whole Cycle Unit (`localCycle_cycle`). -/
theorem localCycleStartCounts : Obligations.LocalCycleStartCounts := by
  refine ⟨fun s ties live on unsynced _ => ?_, fun s ties live on synced => ?_⟩
  · have passed := advance_changes (s.loader.params.periodUnits - s.cycle.cycleTimer) s
    have passedCycle := advance_cycle (s.loader.params.periodUnits - s.cycle.cycleTimer) on
    refine ⟨_, exec_localCycleStart ties live on unsynced, ?_⟩
    generalize advance (s.loader.params.periodUnits - s.cycle.cycleTimer) s = u at passed passedCycle ⊢
    obtain ⟨number, cycleTimer, markTimer, stillUnsynced, -⟩ := localCycle_clock ties u
    have memberCycle (member : s.node = .member) : (localCycle ties u).cycle = u.cycle.localStart :=
      localCycle_cycle ties (by rw [passed.node, member]; decide)
    rw [(deliver_changes _ _).cycle, number, cycleTimer, markTimer, stillUnsynced]
    refine ⟨by rw [passedCycle], rfl, by rw [passedCycle], by rw [passedCycle]; exact unsynced, fun member leads waiting => ?_,
      fun member leads flying => ?_,
      ((passed.mono (by decide)).after (localCycle_changes_of_no_freeze ties u)).after (deliver_changes _ _)⟩
    · simp [memberCycle member, passedCycle, CycleUnit.localStart, leads, waiting, BitVec.add_assoc]
    · simp [memberCycle member, passedCycle, CycleUnit.localStart, leads, flying]
  · have lost := syncLost_changes ties.turns s
    have lostCycle := syncLost_cycle ties.turns s
    rw [advance_cycle _ on] at lostCycle
    refine ⟨_, exec_lossOfSync ties live on synced, ?_⟩
    generalize syncLost ties.turns s = u at lost lostCycle ⊢
    obtain ⟨number, cycleTimer, -, unsynced, unheld⟩ := localCycle_clock ties u
    rw [(deliver_changes _ _).cycle, number, cycleTimer, unsynced, unheld, lostCycle]
    refine ⟨rfl, rfl, rfl, rfl, fun joined => ?_,
      ((lost.mono (by decide)).after (localCycle_changes_of_no_freeze ties u)).after (deliver_changes _ _)⟩
    rw [localCycle_cycle ties (by rwa [lost.node]), CycleUnit.localStart, lostCycle]

/-! ## A freeze (R143 to R148) -/

theorem copies_of_cells {s t : State} (h : t.cells = s.cells) : t.copies = s.copies := by
  simp [State.copies, State.cellsWhere, State.cell, h]

theorem frozenArea_congr {s t : State} (cells : t.cells = s.cells) (number : t.cycle.number = s.cycle.number) :
    t.frozenArea = s.frozenArea := by
  rw [State.frozenArea, State.frozenArea, copies_of_cells cells, number]

/-- What a freeze leaves is said of the cells, the areas, the policy and SNAPSHOT_DROPS before it, and of the areas and SNAPSHOT_DROPS after. -/
theorem Froze.congr {n : CycleNo} {s s' t t' : State} (h : Froze n s' t') (cells : s'.cells = s.cells)
    (areas : s'.snapshots = s.snapshots) (params : s'.loader.params = s.loader.params)
    (drops : s'.counters.getD 11 0 = s.counters.getD 11 0) (areasAfter : t.snapshots = t'.snapshots)
    (dropsAfter : t.counters.getD 11 0 = t'.counters.getD 11 0) : Froze n s t := by
  unfold Froze at h ⊢
  rwa [copies_of_cells cells, areas, params, drops, ← areasAfter, ← dropsAfter] at h

namespace Snapshots

variable {n : Snapshots} {policy : SnapshotPolicy}

theorem target_of_a_empty (a : n.areaA.state = .empty) : n.target policy = .into .a := by simp [target, a]

theorem target_of_b_empty (a : n.areaA.state ≠ .empty) (b : n.areaB.state = .empty) : n.target policy = .into .b := by
  simp [target, a, b]

theorem target_ne_into_of_full (a : n.areaA.state ≠ .empty) (b : n.areaB.state ≠ .empty) (id : AreaId) : n.target policy ≠ .into id := by
  simp only [target, a, b, if_false]
  cases policy <;> grind

theorem target_keepFirst_of_full (a : n.areaA.state ≠ .empty) (b : n.areaB.state ≠ .empty) : n.target .keepFirst = .skip := by
  simp [target, a, b]

/-- With B READING, or the newer of two READY, A is overwritten (R146). -/
theorem target_keepNewest_a (a : n.areaA.state = .ready) (full : n.areaB.state ≠ .empty)
    (b : n.areaB.state = .reading ∨ n.newer = some .b) : n.target .keepNewest = .overwrite .a := by
  rcases b with reading | newer
  · simp [target, a, reading]
  · simp [target, a, full, newer]

/-- With A READING, or the newer of two READY, B is overwritten (R146). -/
theorem target_keepNewest_b (b : n.areaB.state = .ready) (full : n.areaA.state ≠ .empty)
    (a : n.areaA.state = .reading ∨ n.newer = some .a) : n.target .keepNewest = .overwrite .b := by
  rcases a with reading | newer
  · simp [target, b, reading]
  · simp [target, b, full, newer]

end Snapshots

theorem placeFreeze_a (st : Station) (s : State) :
    (placeFreeze .a st s).snapshots = ⟨s.frozenArea, s.snapshots.areaB, some .a⟩ := rfl

theorem placeFreeze_b (st : Station) (s : State) :
    (placeFreeze .b st s).snapshots = ⟨s.snapshots.areaA, s.frozenArea, some .b⟩ := rfl

/-- A snapshot given up at a freeze is posted and counted in SNAPSHOT_DROPS (R148). -/
def dropCounted (detail : Nat) (s : State) : State := count .snapshotDrops 1 (raise .snapshotDropped none 0 detail s)

theorem dropCounted_changes (detail : Nat) (s : State) : ChangesOnly [.counters, .notices] s (dropCounted detail s) :=
  ((raise_changes _ _ _ _ _).mono (by decide)).after (count_changes_other _ _ _)

theorem dropCounted_counters (detail : Nat) (s : State) : (dropCounted detail s).counters = bump 11 1 s.counters := count_counters _ _ _

theorem dropCounted_frozenArea (detail : Nat) (s : State) : (dropCounted detail s).frozenArea = s.frozenArea :=
  frozenArea_congr (dropCounted_changes detail s).cells (by rw [(dropCounted_changes detail s).cycle])

section
variable {s : State}

theorem freeze_into {id : AreaId} (st : Station) (h : s.snapshots.target s.loader.params.snapshotPolicy = .into id) :
    freeze st s = placeFreeze id st s := by
  rw [freeze, h]

theorem freeze_overwrite {id : AreaId} (st : Station) (h : s.snapshots.target s.loader.params.snapshotPolicy = .overwrite id) :
    freeze st s = placeFreeze id st (dropCounted (s.snapshots.area id).cycle.toNat s) := by
  rw [freeze, h]
  rfl

theorem freeze_skip (st : Station) (h : s.snapshots.target s.loader.params.snapshotPolicy = .skip) :
    freeze st s = dropCounted s.cycle.number.toNat s := by
  rw [freeze, h]
  rfl

/-- With no area EMPTY a snapshot is given up, the one overwritten or the one not made (R146, R147, R148). -/
theorem freeze_counters_of_full (st : Station) (a : s.snapshots.areaA.state ≠ .empty) (b : s.snapshots.areaB.state ≠ .empty) :
    (freeze st s).counters = bump 11 1 s.counters := by
  cases target : s.snapshots.target s.loader.params.snapshotPolicy with
  | into id => exact absurd target (Snapshots.target_ne_into_of_full a b id)
  | overwrite id => rw [freeze_overwrite st target, (placeFreeze_changes _ _ _).counters, dropCounted_counters]
  | skip => rw [freeze_skip st target, dropCounted_counters]

end

/-- A freeze puts the table into the area that the areas' states, the marker and the policy choose (R145 to R148). -/
theorem freeze_froze (st : Station) {s : State} (counters : s.counters.length = Config.counters) : Froze s.cycle.number s (freeze st s) := by
  have drops : (bump 11 1 s.counters).getD 11 0 = min (s.counters.getD 11 0 + 1) 65535 :=
    bump_getD_same (by rw [counters]; decide)
  refine ⟨fun a => ?_, fun a b => ?_, fun a b policy => ?_, fun a b policy => ⟨?_, fun ready chosen => ?_, fun ready chosen => ?_⟩⟩
  · rw [freeze_into st (Snapshots.target_of_a_empty a), placeFreeze_a, (placeFreeze_changes _ _ _).counters]
    exact ⟨rfl, rfl⟩
  · rw [freeze_into st (Snapshots.target_of_b_empty a b), placeFreeze_b, (placeFreeze_changes _ _ _).counters]
    exact ⟨rfl, rfl⟩
  · rw [freeze_skip st (by rw [policy, Snapshots.target_keepFirst_of_full a b]), (dropCounted_changes _ _).snapshots, dropCounted_counters]
    exact ⟨rfl, drops⟩
  · rw [freeze_counters_of_full st a b, drops]
  · rw [freeze_overwrite st (by rw [policy, Snapshots.target_keepNewest_a ready b chosen]), placeFreeze_a, dropCounted_frozenArea,
      (dropCounted_changes _ _).snapshots]
    rfl
  · rw [freeze_overwrite st (by rw [policy, Snapshots.target_keepNewest_b ready a chosen]), placeFreeze_b, dropCounted_frozenArea,
      (dropCounted_changes _ _).snapshots]
    rfl

/-! ## A mark taken at the Cycle Unit (R64, R72) -/

theorem adopt_cycle (n : CycleNo) (st : Station) (s : State) :
    (adopt n st s).cycle = { s.cycle with number := n, cycleTimer := 0, markTimer := 0, synced := true } := by
  unfold adopt
  dsimp only
  split
  · rfl
  · split <;> rfl

section
variable {st : Station} {s : State}

theorem meetMark_cycle_of_lower (leads : s.cycle.lead = true) (lower : st < s.own) :
    (meetMark st s).cycle = { s.cycle with lead := false, mark := .empty, takeover := some 0 } := by
  simp [meetMark, raise, leads, lower]

theorem meetMark_cycle_of_higher (leads : s.cycle.lead = true) (higher : ¬st < s.own) :
    (meetMark st s).cycle = { s.cycle with mark := if s.cycle.mark = .waiting then .empty else s.cycle.mark } := by
  simp [meetMark, leads, higher]

theorem meetMark_cycle_of_follower (follows : s.cycle.lead = false) :
    (meetMark st s).cycle = { s.cycle with takeover := s.cycle.takeover.map fun _ => 0 } := by
  simp [meetMark, follows]

end

/-- The Cycle Unit's own part of a mark taken. -/
def markMet (st : Station) (n : CycleNo) (s : State) : State := meetMark st (adopt n st s)

theorem takenMark_eq (st : Station) (n : CycleNo) (ties : Ties) (s : State) :
    takenMark st n ties s = cycleEffects (some st) (some st) ties (markMet st n s) := rfl

theorem markMet_changes (st : Station) (n : CycleNo) (s : State) : ChangesOnly [.cycle, .clock, .lead, .notices] s (markMet st n s) :=
  (adopt_changes n st s).after (meetMark_changes st _)

theorem markMet_clock (st : Station) (n : CycleNo) (s : State) : (markMet st n s).cycle.number = n
    ∧ (markMet st n s).cycle.cycleTimer = 0 ∧ (markMet st n s).cycle.markTimer = 0 ∧ (markMet st n s).cycle.synced = true
    ∧ (markMet st n s).cycle.syncHeld = s.cycle.syncHeld := by
  have clock : Block.same (adopt n st s) (markMet st n s) .clock := (meetMark_changes st (adopt n st s)).clock
  rwa [Block.same, adopt_cycle] at clock

theorem adopt_own (n : CycleNo) (st : Station) (s : State) : (adopt n st s).own = s.own :=
  congrArg Params.station (adopt_changes n st s).params

section
variable {st : Station} {s : State} (n : CycleNo)

theorem markMet_of_lower (leads : s.cycle.lead = true) (lower : st < s.own) : (markMet st n s).cycle.lead = false
    ∧ (markMet st n s).cycle.mark = .empty ∧ (markMet st n s).cycle.takeover = some 0 := by
  rw [markMet, meetMark_cycle_of_lower (by rwa [adopt_cycle]) (by rwa [adopt_own])]
  exact ⟨rfl, rfl, rfl⟩

theorem markMet_of_higher (leads : s.cycle.lead = true) (higher : s.own < st) : (markMet st n s).cycle.lead = true
    ∧ (markMet st n s).cycle.mark = if s.cycle.mark = .waiting then .empty else s.cycle.mark := by
  rw [markMet, meetMark_cycle_of_higher (by rwa [adopt_cycle]) (by rw [adopt_own]; exact BitVec.not_lt.mpr (BitVec.le_of_lt higher)),
    adopt_cycle]
  exact ⟨leads, rfl⟩

theorem markMet_of_follower (follows : s.cycle.lead = false) : (markMet st n s).cycle.lead = false
    ∧ (markMet st n s).cycle.mark = s.cycle.mark
    ∧ (markMet st n s).cycle.takeover = if s.cycle.takeover = none then none else some 0 := by
  rw [markMet, meetMark_cycle_of_follower (by rwa [adopt_cycle]), adopt_cycle]
  refine ⟨follows, rfl, ?_⟩
  cases s.cycle.takeover <;> simp

end

/-- The clock right after a mark taken (R64). -/
theorem takenMark_clock (st : Station) (n : CycleNo) (ties : Ties) (s : State) : (takenMark st n ties s).cycle.number = n
    ∧ (takenMark st n ties s).cycle.cycleTimer = 0 ∧ (takenMark st n ties s).cycle.markTimer = 0
    ∧ (takenMark st n ties s).cycle.synced = true ∧ (takenMark st n ties s).cycle.syncHeld = s.cycle.syncHeld := by
  obtain ⟨number, cycleTimer, markTimer, synced, syncHeld⟩ := (cycleEffects_changes (some st) (some st) ties (markMet st n s)).clock
  obtain ⟨adopted, restarted, restarted', inSync, held⟩ := markMet_clock st n s
  exact ⟨number.trans adopted, cycleTimer.trans restarted, markTimer.trans restarted', synced.trans inSync, syncHeld.trans held⟩

theorem takenMark_member {s : State} (st : Station) (n : CycleNo) (ties : Ties) (member : s.node = .member) :
    takenMark st n ties s = worked (some st) ties (freeze st (markMet st n s)) := by
  rw [takenMark_eq, cycleEffects_marked st _ ties (by rw [(markMet_changes st n s).node, member])]

theorem takenMark_cycle {s : State} (st : Station) (n : CycleNo) (ties : Ties) (member : s.node = .member) :
    (takenMark st n ties s).cycle = (markMet st n s).cycle := by
  rw [takenMark_member st n ties member, (worked_changes _ _ _).cycle, (freeze_changes _ _).cycle]

theorem takenMark_froze {s : State} (st : Station) (n : CycleNo) (ties : Ties) (member : s.node = .member)
    (counters : s.counters.length = Config.counters) : Froze n s (takenMark st n ties s) := by
  have met := markMet_changes st n s
  have frozen := freeze_froze st (s := markMet st n s) (by rw [met.counters, counters])
  have works := worked_changes (some st) ties (freeze st (markMet st n s))
  rw [(markMet_clock st n s).1] at frozen
  rw [takenMark_member st n ties member]
  exact frozen.congr met.cells met.snapshots met.params (by rw [met.counters]) works.snapshots (by rw [works.counters])

theorem takenMark_snapshots_of_not_member {s : State} (st : Station) (n : CycleNo) (ties : Ties) (h : s.node ≠ .member) :
    (takenMark st n ties s).snapshots = s.snapshots := by
  have met := markMet_changes st n s
  rw [takenMark_eq, (cycleEffects_changes_of_no_freeze (some st) ties (.inr (by rwa [met.node]))).snapshots, met.snapshots]

/-! ## A mark taken at the node (R60) -/

/-- The state in which a frame other than a presence is passed on: counted by the Line Interface, and its sender's silence updated. -/
def frameHeard (f : Frame) (ties : Ties) (s : State) : State := updateRoster f ties (frameCounted s)

theorem frameHeard_changes {f : Frame} (ties : Ties) (s : State) (hk : f.body.kind ≠ 1) :
    ChangesOnly [.line, .driver, .counters, .lineCounters, .notices, .membership] s (frameHeard f ties s) :=
  ((frameCounted_changes s).mono (by decide)).after (updateRoster_changes_of_not_presence ties _ hk)

theorem frameHeard_counters {f : Frame} (ties : Ties) (s : State) (hk : f.body.kind ≠ 1) :
    (frameHeard f ties s).counters = bump 1 1 s.counters := by
  rw [frameHeard, (updateRoster_changes_of_not_presence ties _ hk).counters, frameCounted_counters]

theorem passOn_mark {f : Frame} {n : CycleNo} (ties : Ties) {s : State} (mark : f.body = .mark n)
    (known : (s.entry f.station).state ≠ .foreign) : passOn f ties s = takenMark f.station n ties s := by
  rw [passOn, mark]
  exact if_neg known

theorem takeFrame_mark {f : Frame} {n : CycleNo} (ties : Ties) {s : State} (other : f.station ≠ s.own) (mark : f.body = .mark n)
    (known : (s.entry f.station).state ≠ .foreign) :
    takeFrame f ties s = countReception false recvFaultsAfterTake (takenMark f.station n ties (frameHeard f ties s)) := by
  have before := frameCounted_changes s
  have own : (frameCounted s).own = s.own := congrArg Params.station before.params
  have stillKnown : ((frameHeard f ties s).entry f.station).state ≠ .foreign := by
    rwa [frameHeard, updateRoster_entry_state ties _ (by simp [mark, FrameBody.kind]), before.entry]
  rw [takeFrame_eq, admitFrame_of_other ties (own ▸ other), ← frameHeard, passOn_mark ties mark stillKnown]

/-- Settles O37: the frame is counted (`frameHeard`), the Cycle Unit meets the mark (`markMet`), the table is frozen (`takenMark_froze`), and
neither the works of the blocks nor the end of the reception touch the clock, the lead or the areas again. -/
theorem takenMarkBeginsTheCycle : Obligations.TakenMarkBeginsTheCycle := by
  intro s view ties f n live _ counters receives taken other mark known
  have kind : f.body.kind ≠ 1 := by simp [mark, FrameBody.kind]
  have heard := frameHeard_changes ties s kind
  have heardCounters := frameHeard_counters ties s kind
  refine ⟨_, exec_frameTaken ties live receives taken, ?_⟩
  rw [takeFrame_mark ties other mark known]
  generalize frameHeard f ties s = u at heard heardCounters ⊢
  have own : u.own = s.own := congrArg Params.station heard.params
  have whole := takenMark_changes f.station n ties u
  have clock := takenMark_clock f.station n ties u
  have cycle (member : s.node = .member) : (takenMark f.station n ties u).cycle = (markMet f.station n u).cycle :=
    takenMark_cycle f.station n ties (by rw [heard.node, member])
  have froze (member : s.node = .member) : Froze n u (takenMark f.station n ties u) :=
    takenMark_froze f.station n ties (by rw [heard.node, member]) (by rw [heardCounters, bump, List.length_set]; exact counters.1)
  have unfrozen (away : s.node ≠ .member) : (takenMark f.station n ties u).snapshots = u.snapshots :=
    takenMark_snapshots_of_not_member f.station n ties (by rwa [heard.node])
  generalize takenMark f.station n ties u = v at whole clock cycle froze unfrozen ⊢
  have counted := countReception_changes false recvFaultsAfterTake v
  have ended : ChangesOnly [.standing, .level, .line, .driver, .counters, .notices, .posted] v
      (deliver ties.turns (countReception false recvFaultsAfterTake v)) := (counted.mono (by decide)).after (deliver_changes _ _)
  have drops : (deliver ties.turns (countReception false recvFaultsAfterTake v)).counters.getD 11 0 = v.counters.getD 11 0 := by
    rw [deliver_counter_other _ _ (by decide), counted.counters]
  generalize deliver ties.turns (countReception false recvFaultsAfterTake v) = t at ended drops ⊢
  obtain ⟨number, cycleTimer, markTimer, synced, syncHeld⟩ := clock
  rw [ended.cycle, ended.snapshots, number, cycleTimer, markTimer, synced, syncHeld, heard.cycle]
  refine ⟨rfl, rfl, rfl, rfl, rfl, fun member => ?_, fun away => ?_, fun member leads lower => ?_, fun member leads higher => ?_,
    fun member follows => ?_, ((heard.mono (by decide)).after whole).after ended⟩
  · exact (froze member).congr heard.cells heard.snapshots heard.params
      (by rw [heardCounters, bump_getD_other (by decide)]) ended.snapshots drops
  · rw [unfrozen away, heard.snapshots]
  · rw [cycle member]
    exact markMet_of_lower n (by rwa [heard.cycle]) (by rwa [own])
  · rw [cycle member, ← heard.cycle]
    exact markMet_of_higher n (by rwa [heard.cycle]) (by rwa [own])
  · rw [cycle member, ← heard.cycle]
    exact markMet_of_follower n (by rwa [heard.cycle])

end Sys2Proof.Machine
end

section
/-! SUPPORT. A notice at the Notice Queue: masked, placed, or an overflow; ATTN judged again; and what the queue keeps of that while notices are
still on their way (R155 to R158, R161). -/

set_option Elab.async false

namespace Sys2Proof.Machine

/-! ## A post (R155 to R158) -/

/-- What an overflow leaves in the list (R157). -/
def OverflowPolicy.kept (policy : OverflowPolicy) (n : Notice) (list : List Notice) : List Notice :=
  match policy with
  | .keepOld => list
  | .keepNew => list.dropLast ++ [n]

/-- The Notice Queue and its counter at an overflow, ATTN not yet judged again (R157, R158). -/
def overflowed (n : Notice) (s : State) : State :=
  (s.setCounters (bump 12 1 s.counters)).setNotices { s.notices with
    list := s.loader.params.noticeOverflow.kept n s.notices.list, overflow := true }

section
variable {n : Notice} {s : State}

theorem post_of_masked (h : inRecordMask s.loader.params n.kind = false) : post n s = s := by simp [post, h]

theorem post_of_room (h : inRecordMask s.loader.params n.kind = true) (room : s.notices.list.length < 32) :
    post n s = judgeAttn (s.setNotices { s.notices with list := s.notices.list ++ [n] }) := by
  simp [post, h, room, Config.noticePlaces]

theorem post_of_full (h : inRecordMask s.loader.params n.kind = true) (full : 32 ≤ s.notices.list.length) :
    post n s = judgeAttn (overflowed n s) := by
  unfold post
  dsimp only
  rw [h, if_neg (by decide), if_neg (Nat.not_lt.mpr (show Config.noticePlaces ≤ s.notices.list.length from full))]
  rfl

/-- A full list stays full at an overflow, whatever the policy (R157). -/
theorem OverflowPolicy.length_kept (policy : OverflowPolicy) (n : Notice) {list : List Notice} (h : list ≠ []) :
    (policy.kept n list).length = list.length := by
  cases policy with
  | keepOld => rfl
  | keepNew =>
    have := List.length_pos_iff.mpr h
    simp only [kept, List.length_append, List.length_dropLast, List.length_singleton]
    omega

end

/-- Settles O46: a case of `post` for each clause; at an overflow `overflowed` says what is lost, and ATTN is judged after it. -/
theorem postsAreQueuedOrOverflow : Obligations.PostsAreQueuedOrOverflow := by
  refine fun s n _ => ⟨post_of_masked, fun recorded room => ?_, fun recorded full => ?_⟩
  · rw [post_of_room recorded room]
    rfl
  · rw [post_of_full recorded (Nat.le_of_eq full.symm)]
    refine ⟨rfl, rfl, fun policy => ?_, fun policy => ?_, rfl⟩
    · show s.loader.params.noticeOverflow.kept n s.notices.list = _
      rw [policy, OverflowPolicy.kept]
    · show s.loader.params.noticeOverflow.kept n s.notices.list = _
      rw [policy, OverflowPolicy.kept, List.dropLast_eq_take, full]

/-! ## The queue while notices are on their way (R156, R161; log 8) -/

/-- `NoticesSound` but for the outbox, which fills while an event has its effect. -/
structure NoticesFit (s : State) : Prop where
  within : s.notices.list.length ≤ 32
  attn : s.notices.attn = attnOf s.loader.params s.notices.list s.notices.overflow

theorem noticesSound_iff (s : State) : NoticesSound s ↔ s.notices.outbox = [] ∧ NoticesFit s :=
  ⟨fun ⟨outbox, within, attn⟩ => ⟨outbox, within, attn⟩, fun ⟨outbox, within, attn⟩ => ⟨outbox, within, attn⟩⟩

theorem NoticesSound.fit {s : State} (h : NoticesSound s) : NoticesFit s := ((noticesSound_iff s).mp h).2

/-- The empty queue of a reset is sound under any masks (R163). -/
theorem noticesSound_of_reset {s : State} (h : s.notices = NoticeQueue.reset) : NoticesSound s := by
  rw [NoticesSound, h]
  exact ⟨rfl, Nat.zero_le _, rfl⟩

theorem noticesFit_judgeAttn {s : State} (within : s.notices.list.length ≤ 32) : NoticesFit (judgeAttn s) := ⟨within, rfl⟩

namespace NoticesFit

variable {s t : State}

/-- Only the queue without its outbox and the masks matter: an operation that at most raises notices keeps it. -/
theorem of_changes {ps : List Block} (h : NoticesFit s) (c : ChangesOnly ps s t) (hq : Block.posted ∉ ps := by decide)
    (hp : Block.params ∉ ps := by decide) : NoticesFit t := by
  obtain ⟨list, overflow, attn⟩ := c.posted hq
  exact ⟨by rw [list]; exact h.within, by rw [list, overflow, attn, c.params hp]; exact h.attn⟩

theorem ite {c : Prop} [Decidable c] (h : NoticesFit s) (k : NoticesFit t) : NoticesFit (if c then t else s) := by
  split
  · exact k
  · exact h

/-- An operation that acts only where it is due. -/
theorem due {b : Bool} (f : State → State) (h : NoticesFit s) (hf : NoticesFit s → NoticesFit (f s)) :
    NoticesFit (if b then f s else s) := h.ite (hf h)

theorem foldl {α : Type} {f : State → α → State} (hf : ∀ t a, NoticesFit t → NoticesFit (f t a)) (l : List α) (h : NoticesFit s) :
    NoticesFit (l.foldl f s) := by
  induction l generalizing s with
  | nil => exact h
  | cons a l ih => exact ih (hf s a h)

theorem post (h : NoticesFit s) (n : Notice) : NoticesFit (Machine.post n s) := by
  cases recorded : inRecordMask s.loader.params n.kind with
  | false => rwa [post_of_masked recorded]
  | true =>
    rcases Nat.lt_or_ge s.notices.list.length 32 with room | full
    · rw [post_of_room recorded room]
      refine noticesFit_judgeAttn ?_
      rw [State.setNotices_notices, List.length_append, List.length_singleton]
      exact room
    · rw [post_of_full recorded full]
      have held : s.notices.list ≠ [] := List.length_pos_iff.mp (Nat.lt_of_lt_of_le (by decide) full)
      exact noticesFit_judgeAttn (Nat.le_trans (Nat.le_of_eq (OverflowPolicy.length_kept _ n held)) h.within)

theorem deliver (h : NoticesFit s) (turns : List Source) : NoticesFit (Machine.deliver turns s) :=
  foldl (fun _ n ht => ht.post n) _ ⟨h.within, h.attn⟩

end NoticesFit

theorem post_outbox (n : Notice) (s : State) : (post n s).notices.outbox = s.notices.outbox := by
  unfold post
  dsimp only
  split
  · rfl
  · split <;> rfl

theorem deliver_outbox (turns : List Source) (s : State) : (deliver turns s).notices.outbox = [] := by
  have posted (l : List Notice) (t : State) : (l.foldl (fun t n => post n t) t).notices.outbox = t.notices.outbox := by
    induction l generalizing t with
    | nil => rfl
    | cons n l ih => rw [List.foldl_cons, ih, post_outbox]
  exact posted _ _

/-- At the end of an event its notices are in the queue, and the queue is sound. -/
theorem NoticesFit.sound {s : State} (h : NoticesFit s) (turns : List Source) : NoticesSound (Machine.deliver turns s) :=
  (noticesSound_iff _).mpr ⟨deliver_outbox turns s, h.deliver turns⟩

end Sys2Proof.Machine
end

section
/-! SUPPORT. Every step keeps the Notice Queue sound (R155, R156, R157, R161): the operations that deliver notices, take one, clear the overflow
flag or change the masks, the commands made of them, and the step. -/

set_option Elab.async false

namespace Sys2Proof.Machine

namespace NoticesFit

variable {s : State}

/-! ## Start-up and requests: the list, the flag and the masks (R160, R161, R163, R172) -/

theorem loadStore (h : NoticesFit s) (p : Params) (records : List (CellNo × CellConfig)) : NoticesFit (Machine.loadStore p records s) := by
  have written : ChangesOnly [.cells] (s.setLoader { s.loader with params := p, loadStatus := .good })
      (records.foldl (fun t r => t.setCell r.1 (CellRecord.fresh p.station r.2))
        (s.setLoader { s.loader with params := p, loadStatus := .good })) :=
    ChangesOnly.foldl _ (fun t r => setCell_changes t _ _) _ _
  refine noticesFit_judgeAttn ?_
  rw [State.setMembership_notices, written.notices]
  exact h.within

theorem finishPreload (h : NoticesFit s) (levels : List Level) (restLevel : Level) :
    NoticesFit (Machine.finishPreload levels restLevel s) := by
  have marked (status : LoadStatus) : NoticesFit (s.setLoader { s.loader with loadStatus := status }) :=
    h.of_changes (setLoader_keeps_params s _ rfl)
  unfold Machine.finishPreload
  split
  · exact (marked .noMemory).of_changes (endPreload_changes _)
  · exact (marked .badCheck).of_changes (endPreload_changes _)
  · exact ((h.loadStore _ _).of_changes (endPreload_changes _)).of_changes (joinByStrap_changes _)

theorem configure (h : NoticesFit s) {f : State → State} (hf : NoticesFit (f s)) : NoticesFit (Machine.configure f s) := by
  unfold Machine.configure
  split
  · exact h.of_changes (respond_changes _ _ _)
  · exact hf.ite (h.of_changes (respond_changes _ _ _))

theorem configureNode (h : NoticesFit s) (number : Byte) (value : BitVec 40) : NoticesFit (Machine.configureNode number value s) := by
  unfold Machine.configureNode
  split
  · refine of_changes (noticesFit_judgeAttn ?_) (respond_changes _ _ _)
    rw [(moveStation_changes _ _ _).notices]
    exact h.within
  · exact h.of_changes (respond_changes _ _ _)

theorem takeNotice (h : NoticesFit s) : NoticesFit (Machine.takeNotice s) := by
  unfold Machine.takeNotice
  split
  · exact h.of_changes (respond_changes _ _ _)
  · next n rest held =>
    refine of_changes (noticesFit_judgeAttn ?_) (respond_changes _ _ _)
    have within := h.within
    rw [held, List.length_cons] at within
    exact Nat.le_of_succ_le within

theorem clearSticky (h : NoticesFit s) : NoticesFit (Machine.clearSticky s) := noticesFit_judgeAttn h.within

theorem readStatus (h : NoticesFit s) : NoticesFit (Machine.readStatus s) := h.clearSticky.of_changes (respond_changes _ _ _)

theorem restarted (s : State) : NoticesFit (respondNode .ok (Machine.restarted s)) :=
  (noticesSound_of_reset rfl).fit.of_changes (respondNode_changes _ _)

/-! ## Cycle starts: notices delivered inside an event (R68, R154; log 8) -/

theorem cycleEffects_none (h : NoticesFit s) (taken : Option Station) (ties : Ties) :
    NoticesFit (Machine.cycleEffects none taken ties s) := by
  have tallied : NoticesFit (if s.node = .listening then tally taken.isSome s else s) := h.ite (h.of_changes (tally_changes _ _))
  have done := tallied.of_changes (worked_changes taken ties _)
  exact done.ite ((done.deliver ties.turns).of_changes (judgeListening_changes _))

theorem cycleEffects (h : NoticesFit s) (mark taken : Option Station) (ties : Ties) :
    NoticesFit (Machine.cycleEffects mark taken ties s) := by
  cases mark with
  | none => exact h.cycleEffects_none taken ties
  | some st =>
    rw [cycleEffects_some]
    exact (h.ite (h.of_changes (freeze_changes st s))).cycleEffects_none taken ties

theorem takenMark (h : NoticesFit s) (st : Station) (n : CycleNo) (ties : Ties) : NoticesFit (Machine.takenMark st n ties s) :=
  (h.of_changes (markMet_changes st n s)).cycleEffects _ _ ties

theorem ownMark (h : NoticesFit s) (n : CycleNo) (ties : Ties) : NoticesFit (Machine.ownMark n ties s) :=
  ((h.of_changes (emptyMark_changes s)).of_changes (adopt_changes _ _ _)).cycleEffects _ _ ties

theorem localCycle (h : NoticesFit s) (ties : Ties) : NoticesFit (Machine.localCycle ties s) := by
  rw [localCycle_eq]
  exact (h.of_changes (setCycle_changes s s.cycle.localStart)).cycleEffects _ _ ties

theorem localCycleStart (h : NoticesFit s) (ties : Ties) : NoticesFit (Machine.localCycleStart ties s) :=
  h.ite ((h.of_changes (advance_changes _ s)).localCycle ties)

theorem syncLost (h : NoticesFit s) (turns : List Source) : NoticesFit (Machine.syncLost turns s) :=
  deliver (((h.of_changes (advance_changes _ s)).of_changes (setCycle_changes _ _)).of_changes (raise_changes _ _ _ _ _)) turns

theorem lossOfSync (h : NoticesFit s) (ties : Ties) : NoticesFit (Machine.lossOfSync ties s) :=
  h.ite ((h.syncLost ties.turns).localCycle ties)

/-! ## Own frames and frames taken -/

theorem markOutcome (h : NoticesFit s) (o : OutcomeKind) (image : Frame) (ties : Ties) :
    NoticesFit (Machine.markOutcome o image ties s) := by
  unfold Machine.markOutcome
  split
  · exact h.ownMark _ ties
  · exact h.ownMark _ ties
  · exact h.of_changes (setCycle_changes _ _)

theorem handleOutcome (h : NoticesFit s) (o : OutcomeKind) (ties : Ties) : NoticesFit (Machine.handleOutcome o ties s) := by
  unfold Machine.handleOutcome
  split
  · exact h
  · have landed : NoticesFit (s.setSendQueue { s.sendQueue with inFlight := none }) := h.of_changes (setSendQueue_changes _ _)
    dsimp only
    split
    · exact landed.markOutcome o _ ties
    · exact landed.of_changes (presenceOutcome_changes _ _)
    · exact landed.of_changes (entryOutcome_changes _ _ _ _)

theorem outcomeAndFall (h : NoticesFit s) (o : OutcomeKind) (ties : Ties) : NoticesFit (Machine.outcomeAndFall o ties s) :=
  ite ((h.handleOutcome o ties).of_changes (fallSilent_changes _)) ((h.of_changes (fallSilent_changes s)).handleOutcome o ties)

/-- A frame of the node's own has ended, and its outcome is counted. -/
theorem endedAndCounted (h : NoticesFit s) (run : Nat) (id : CounterId) :
    NoticesFit (count id 1 (suspend (endFrame run s))) :=
  ((h.of_changes (endFrame_changes run s)).of_changes (suspend_changes _)).of_changes (count_changes _ _ _)

theorem outcomeLost (h : NoticesFit s) (run : Nat) : NoticesFit (Machine.outcomeLost run s) :=
  (((h.of_changes (setLine_changes s _)).of_changes (count_changes _ _ _)).handleOutcome .lost Ties.default).of_changes
    (standOutcome_changes _ _)

theorem outcomeClash (h : NoticesFit s) (run : Nat) (ties : Ties) : NoticesFit (Machine.outcomeClash run ties s) :=
  (((h.endedAndCounted run .sendFaults).of_changes (standOutcome_changes _ _)).of_changes (dueVeto_changes _ _)).outcomeAndFall _ ties

theorem outcomeVetoed (h : NoticesFit s) (run : Nat) (ties : Ties) : NoticesFit (Machine.outcomeVetoed run ties s) :=
  ((h.endedAndCounted run .sendFaults).of_changes (standOutcome_changes _ _)).outcomeAndFall _ ties

theorem outcomeLone (h : NoticesFit s) (ties : Ties) : NoticesFit (Machine.outcomeLone ties s) :=
  ((((h.of_changes (setLine_changes s _)).of_changes (suspend_changes _)).of_changes (count_changes _ _ _)).handleOutcome .lone
    ties).of_changes (standOutcome_changes _ _)

theorem outcomeSent (h : NoticesFit s) (ties : Ties) : NoticesFit (Machine.outcomeSent ties s) :=
  ((h.endedAndCounted 0 .sentFrames).handleOutcome .sent ties).of_changes (standOutcome_changes _ _)

theorem driverTimeout (h : NoticesFit s) (report : Overrun) : NoticesFit (Machine.driverTimeout report s) := by
  rw [driverTimeout_eq]
  exact (h.of_changes (overrunCounted_changes _ s)).outcomeAndFall _ report.ties

theorem passOn (h : NoticesFit s) (f : Frame) (ties : Ties) : NoticesFit (Machine.passOn f ties s) := by
  unfold Machine.passOn
  dsimp only
  split
  · exact h
  · exact ite (h.takenMark _ _ ties) h
  · exact h.ite (h.of_changes (takePublication_changes _ _ _ _ _ _))
  · exact h.ite (h.of_changes (takeFetch_changes _ _))

theorem admitFrame (h : NoticesFit s) (f : Frame) (ties : Ties) : NoticesFit (Machine.admitFrame f ties s) :=
  ite ((h.of_changes (updateRoster_changes f ties s)).passOn f ties) (h.of_changes (enterHalted_changes _ s))

theorem takeFrame (h : NoticesFit s) (f : Frame) (ties : Ties) : NoticesFit (Machine.takeFrame f ties s) := by
  have counted : NoticesFit (count .takenFrames 1 (endFrame 0 (acknowledge s))) :=
    ((h.of_changes (acknowledge_changes s)).of_changes (endFrame_changes _ _)).of_changes (count_changes _ _ _)
  exact (counted.admitFrame f ties).of_changes (standTake_changes _)

end NoticesFit

/-! ## Commands -/

namespace NoticesSound

variable {s t : State} {turns : List Source} {f : State → State}

theorem event (h : NoticesSound s) (e : Machine.event turns f s = .next t) (hf : NoticesFit (f s)) : NoticesSound t := by
  cases reset : s.inReset with
  | true =>
    rw [event_inReset turns f s reset] at e
    cases e
    exact h
  | false =>
    rw [event_eq turns f s reset] at e
    cases e
    exact hf.sound turns

theorem transaction (h : NoticesSound s) (e : Machine.transaction turns f s = .next t) (hf : NoticesFit (f s)) : NoticesSound t :=
  h.event e (hf.ite h.fit)

theorem request (h : NoticesSound s) (e : Machine.request turns f s = .next t) (hf : NoticesFit (f s)) : NoticesSound t :=
  h.transaction e (hf.ite (h.fit.of_changes (respond_changes _ _ s)))

end NoticesSound

/-- A command that is no start-up of the node is an event, and its effect keeps the queue within its places. -/
theorem exec_keeps_noticesSound {s t : State} (i : Instr) (h : NoticesSound s) (e : exec i s = .next t) : NoticesSound t := by
  have fit := h.fit
  cases i with
  | hardReset => cases e; exact noticesSound_of_reset rfl
  | resetRelease levels =>
    cases e
    split
    · exact noticesSound_of_reset rfl
    · exact h
  | preloadEnd levels restLevel => exact h.event e (fit.ite (fit.finishPreload levels restLevel))
  | transactionAbort =>
    cases e
    split
    · exact h
    · exact h
  | unknown code =>
    change (if namesRequest code then _ else _) = _ at e
    split at e
    · cases e; exact h
    · exact h.request e (fit.of_changes (respond_changes _ _ s))
  | cancel cell => exact h.request e (fit.of_changes (cancelCell_changes cell s))
  | cfgcell cell record => exact h.request e (fit.configure (fit.of_changes (configureCell_changes cell record s)))
  | cfgnode number value => exact h.request e (fit.configure (fit.configureNode number value))
  | detach ties => exact h.request e (fit.of_changes (detachNode_changes s))
  | fetch cell => exact h.request e (fit.of_changes (fetchCell_changes cell s))
  | join => exact h.request e (fit.of_changes (joinNode_changes s))
  | notake => exact h.request e fit.takeNotice
  | rdcell cell => exact h.request e (fit.of_changes (readCell_changes cell s))
  | rdcnt clear => exact h.request e (fit.of_changes (readCounters_changes clear s))
  | rdrost station => exact h.request e (fit.of_changes (readRoster_changes station s))
  | rdstat => exact h.transaction e fit.readStatus
  | rejoin => exact h.request e (fit.of_changes (rejoinNode_changes s))
  | restart => exact h.request (f := fun u => respondNode .ok (restarted u)) e (.restarted s)
  | snfree => exact h.request e (fit.of_changes (freeArea_changes s))
  | snopen => exact h.request e (fit.of_changes (openArea_changes s))
  | snread cell => exact h.request e (fit.of_changes (readCopy_changes cell s))
  | wrcell cell value => exact h.request e (fit.of_changes (writeCell_changes cell value s))
  | frameStart =>
    refine h.event e (fit.ite ?_)
    split
    · exact fit.of_changes (startFrame_changes _ s)
    · exact fit
  | outcomeLost view => exact h.event e (fit.ite (fit.outcomeLost _))
  | outcomeClash view ties => exact h.event e (fit.ite (fit.outcomeClash _ ties))
  | outcomeLone view ties => exact h.event e (fit.ite (fit.outcomeLone ties))
  | outcomeVetoed view ties => exact h.event e (fit.ite (fit.outcomeVetoed _ ties))
  | outcomeSent view ties => exact h.event e (fit.ite (fit.outcomeSent ties))
  | driverTimeout report => exact h.event e (fit.ite ((fit.of_changes (advance_changes _ s)).driverTimeout report))
  | frameTaken view ties =>
    refine h.event e (fit.ite ?_)
    split
    · exact fit.takeFrame _ ties
    · exact fit
  | receiveFault view ties =>
    refine h.event e (fit.ite ?_)
    split
    · exact fit.of_changes (faultFound_changes _ _ s)
    · exact fit
  | frameDiscarded view => exact h.event e (fit.ite ((fit.of_changes (acknowledge_changes s)).of_changes (endFrame_changes _ _)))
  | quietInterval ties =>
    exact h.event e (fit.ite (((fit.of_changes (finishVeto_changes s)).of_changes (lineQuiet_changes _)).of_changes (countQuiet_changes _)))
  | lineStuck => exact h.event e (fit.ite (fit.of_changes (lineSticks_changes s)))
  | suspensionEnd => exact h.event e (fit.ite (fit.of_changes (setLine_changes s _)))
  | recovery ties => exact h.event e (fit.ite (fit.of_changes (recover_changes s)))
  | windowClose => exact h.event e (fit.ite (fit.of_changes (judgeWindow_changes s)))
  | silenceDeparture station ties => exact h.event e (fit.ite (fit.of_changes (depart_changes station 0 ties.fetchFirst s)))
  | listenWindowEnd ties => exact h.event e (fit.of_changes (judgeListening_changes s))
  | presenceFill => exact h.event e (fit.ite (fit.of_changes (presenceTurn_changes s)))
  | localCycleStart ties => exact h.event e (fit.localCycleStart ties)
  | markFill => exact h.event e (fit.of_changes (markFill_changes s))
  | lossOfSync ties => exact h.event e (fit.lossOfSync ties)
  | takeover => exact h.event e (fit.of_changes (takeOver_changes s))
  | cellStale cell => exact h.event e (fit.ite (fit.of_changes (makeStale_changes cell s)))
  | cellLost cell => exact h.event e (fit.ite (fit.of_changes (makeLost_changes 0 cell s)))
  | claimRegained cell ties => exact h.event e (fit.ite (fit.of_changes (regain_changes 0 cell s)))
  | gapEnd cell => exact h.event e (fit.ite (fit.of_changes (endGap_changes cell s)))
  | fetchTryEnd slot => exact h.event e (fit.ite (fit.of_changes (endTry_changes slot.val s)))
  | startSymbol => exact h.event e (fit.ite (fit.of_changes (dominantSeen_changes s)))

/-! ## A step with no command (log 3) -/

/-- The events that a unit of time makes due each keep the queue within its places; their notices reach it at the end. -/
theorem tick_keeps_noticesSound {s : State} (h : NoticesSound s) : NoticesSound (tick s) := by
  have passed : NoticesFit (advance 1 s) := h.fit.of_changes (advance_changes 1 s)
  unfold tick
  split
  · exact h
  · dsimp only
    refine NoticesFit.sound ?_ []
    refine .due takeOver ?_ fun hu => hu.of_changes (takeOver_changes _)
    refine .due markFill ?_ fun hu => hu.of_changes (markFill_changes _)
    refine .due (localCycleStart Ties.default) ?_ fun hu => hu.localCycleStart _
    refine .due (lossOfSync Ties.default) ?_ fun hu => hu.lossOfSync _
    refine .due (fun u => driverTimeout ⟨.seen u.sentLevels, Ties.default⟩ u) ?_ fun hu => hu.driverTimeout _
    exact .due stick passed fun hu => hu.of_changes (stick_changes _)

/-- Settles O56: a step is a command (`exec_keeps_noticesSound`) or a unit of time (`tick_keeps_noticesSound`). -/
theorem stepKeepsNoticesSound : Obligations.StepKeepsNoticesSound := by
  intro s t h e
  unfold step at e
  split at e
  · cases e
    exact tick_keeps_noticesSound h
  · next i rest _ => exact exec_keeps_noticesSound i (s := s.setPending rest) h e

end Sys2Proof.Machine
end
